-- ==== Sys2Proof/Word.lean ====
section
/-! DEFINITION. The word types of the block (00_scope R5, 10_state, 30_encoding R50): all unsigned,
bit k of weight 2^k. -/

namespace Sys2Proof

/-- A byte; `b.getLsbD k` is the bit of weight 2^k (R5). -/
abbrev Byte := BitVec 8

/-- The command word CW: OP, A and B (R50). -/
abbrev CommandWord := BitVec 24

/-- The payload P of a request (R50, R56). -/
abbrev Payload := BitVec 64

/-- A 7-bit bus address (R15, R32). -/
abbrev BusAddress := BitVec 7

/-- A buffer: exactly eight row bytes, row 0 first (R10). -/
abbrev Buffer := Vector Byte 8

/-- A message: the bytes of one transport transaction, the first sent first (R5, R35). -/
abbrev Message := List Byte

end Sys2Proof
end

