-- ==== Sys2Proof/Syntax.lean ====
section
/-! DEFINITION. The instructions: one constructor per row of spec/opcode_table.json, in its order.
The thirteen requests are run by the block (30_encoding R52), the six wire messages are executed by
the device mirror (R58 to R64, 20_memory R44). -/

namespace Sys2Proof

/-- Operands of requests are 8 bits wide at the port even where fewer values are legal (R51), so an
out-of-range operand can be written down and is refused by the operation (R57). -/
inductive Instr where
  /-- INIT brightness, address: A, B[6:0] (R100). -/
  | init (brightness : Byte) (address : BusAddress)
  /-- ON (R140). -/
  | on
  /-- OFF (R141). -/
  | off
  /-- SET_BRIGHTNESS level: A (R142). -/
  | setBrightness (level : Byte)
  /-- SET_BLINKING mode: A (R143). -/
  | setBlinking (mode : Byte)
  /-- SET b0..b7: the payload P (R130). -/
  | set (bitmap : Payload)
  /-- CLEAR (R131). -/
  | clear
  /-- SET_ROW row, byte: A, B (R120). -/
  | setRow (row byte : Byte)
  /-- CLEAR_ROW row: A (R121). -/
  | clearRow (row : Byte)
  /-- SET_COLUMN column, byte: A, B (R110). -/
  | setColumn (column byte : Byte)
  /-- CLEAR_COLUMN column: A (R111). -/
  | clearColumn (column : Byte)
  /-- SET_PIXEL row, column: A, B (R122). -/
  | setPixel (row column : Byte)
  /-- CLEAR_PIXEL row, column: A, B (R123). -/
  | clearPixel (row column : Byte)
  /-- Wire message OSC_ON (R59). -/
  | oscOn
  /-- Wire message DIMMING (R60). -/
  | dimming (level : BitVec 4)
  /-- Wire message DISPLAY_ON (R61). -/
  | displayOn (mode : BitVec 2)
  /-- Wire message DISPLAY_OFF (R61). -/
  | displayOff
  /-- Wire message ROW_WRITE: row number and wire byte (R62, R92). -/
  | rowWrite (row : BitVec 3) (wire : Byte)
  /-- Wire message FULL_WRITE: the eight wire bytes (R64, R91). -/
  | fullWrite (wires : Buffer)
deriving DecidableEq, Repr

/-- The row's mnemonic, as opcode_table.json spells it. -/
def Instr.mnemonic : Instr → String
  | .init _ _ => "INIT"
  | .on => "ON"
  | .off => "OFF"
  | .setBrightness _ => "SET_BRIGHTNESS"
  | .setBlinking _ => "SET_BLINKING"
  | .set _ => "SET"
  | .clear => "CLEAR"
  | .setRow _ _ => "SET_ROW"
  | .clearRow _ => "CLEAR_ROW"
  | .setColumn _ _ => "SET_COLUMN"
  | .clearColumn _ => "CLEAR_COLUMN"
  | .setPixel _ _ => "SET_PIXEL"
  | .clearPixel _ _ => "CLEAR_PIXEL"
  | .oscOn => "OSC_ON"
  | .dimming _ => "DIMMING"
  | .displayOn _ => "DISPLAY_ON"
  | .displayOff => "DISPLAY_OFF"
  | .rowWrite _ _ => "ROW_WRITE"
  | .fullWrite _ => "FULL_WRITE"

/-- The instruction is a request of the host (space "request" of the table), not a wire message. -/
def Instr.isRequest : Instr → Bool
  | .init _ _ => true
  | .on => true
  | .off => true
  | .setBrightness _ => true
  | .setBlinking _ => true
  | .set _ => true
  | .clear => true
  | .setRow _ _ => true
  | .clearRow _ => true
  | .setColumn _ _ => true
  | .clearColumn _ => true
  | .setPixel _ _ => true
  | .clearPixel _ _ => true
  | .oscOn => false
  | .dimming _ => false
  | .displayOn _ => false
  | .displayOff => false
  | .rowWrite _ _ => false
  | .fullWrite _ => false

end Sys2Proof
end

