-- ==== Sys2Proof/Decode.lean ====
section
/-! DEFINITION. Decoding and encoding of requests (30_encoding part A) and of wire messages
(part B). The decoder is total: any command word and any byte sequence gives an instruction or a
rejection with a name. The encoder stands after it, written from the same tables. -/

namespace Sys2Proof

/-- OP = CW[23:16] (R50). -/
def opField (cw : CommandWord) : Byte := cw.extractLsb' 16 8
/-- A = CW[15:8] (R50). -/
def aField (cw : CommandWord) : Byte := cw.extractLsb' 8 8
/-- B = CW[7:0] (R50). -/
def bField (cw : CommandWord) : Byte := cw.extractLsb' 0 8

/-! ## Wire bytes (30_encoding B.2) -/

/-- Oscillator on (R59). -/
def oscByte : Byte := 0x21
/-- Brightness: `0xE0 | level` (R60). -/
def brightnessByte (level : BitVec 4) : Byte := (0xE0 : Byte) ||| level.setWidth 8
/-- Display on: `0x81 | (BLINK << 1)` (R61). -/
def displayOnByte (mode : BitVec 2) : Byte := (0x81 : Byte) ||| (mode.setWidth 8 <<< 1)
/-- Display off (R61). -/
def displayOffByte : Byte := 0x80
/-- `rowaddr(r) = 2 * r` (R62). -/
def rowAddr (row : BitVec 3) : Byte := row.setWidth 8 <<< 1
/-- Sixteen bytes, 0x00 at even indices and the wire byte of row i at index 2i+1 (R64). -/
def fullBytes (w : Buffer) : Message :=
  [0x00, w[0], 0x00, w[1], 0x00, w[2], 0x00, w[3], 0x00, w[4], 0x00, w[5], 0x00, w[6], 0x00, w[7]]

/-! ## Decoding -/

/-- Why the decoder refuses. -/
inductive Reject where
  /-- OP = 0x00 or OP in 0x0E..0xFF (R54). -/
  | undefinedOpcode
  /-- A field that must be zero is not: A or B, or B[7] of INIT (R50, R54). -/
  | nonzeroField
  /-- A one-byte message that is no wire command of the table (R58, R65). -/
  | undefinedCommand
  /-- A two-byte message whose first byte is no row address (R62, R65). -/
  | undefinedRowAddress
  /-- A sixteen-byte message with a nonzero byte at an even index (R64). -/
  | nonzeroFiller
  /-- A message of another length (R58). -/
  | undefinedLength
deriving DecidableEq, Repr

/-- Accept `i` when the fields that must be zero are zero (R50, R54). -/
def requireZero (zero : Bool) (i : Instr) : Except Reject Instr :=
  if zero then .ok i else .error .nonzeroField

/-- `decode(CW)` of R53; the payload is attached to SET and ignored by every other operation (R55). -/
def decodeRequest (cw : CommandWord) (p : Payload) : Except Reject Instr :=
  let a := aField cw
  let b := bField cw
  match (opField cw).toNat with
  | 0x01 => requireZero (!b.getLsbD 7) (.init a (b.extractLsb' 0 7))
  | 0x02 => requireZero (a == 0 && b == 0) .on
  | 0x03 => requireZero (a == 0 && b == 0) .off
  | 0x04 => requireZero (b == 0) (.setBrightness a)
  | 0x05 => requireZero (b == 0) (.setBlinking a)
  | 0x06 => requireZero (a == 0 && b == 0) (.set p)
  | 0x07 => requireZero (a == 0 && b == 0) .clear
  | 0x08 => .ok (.setRow a b)
  | 0x09 => requireZero (b == 0) (.clearRow a)
  | 0x0A => .ok (.setColumn a b)
  | 0x0B => requireZero (b == 0) (.clearColumn a)
  | 0x0C => .ok (.setPixel a b)
  | 0x0D => .ok (.clearPixel a b)
  | _ => .error .undefinedOpcode

/-- The wire message a sequence of bytes is (R58 to R64, the table's mask and match). -/
def decodeWire (m : Message) : Except Reject Instr :=
  match m with
  | [b] =>
    if b = 0x21 then .ok .oscOn
    else if b &&& 0xF0 = 0xE0 then .ok (.dimming (b.extractLsb' 0 4))
    else if b &&& 0xF9 = 0x81 then .ok (.displayOn (b.extractLsb' 1 2))
    else if b = 0x80 then .ok .displayOff
    else .error .undefinedCommand
  | [a, d] =>
    if a &&& 0xF1 = 0x00 then .ok (.rowWrite (a.extractLsb' 1 3) d) else .error .undefinedRowAddress
  | [z0, w0, z1, w1, z2, w2, z3, w3, z4, w4, z5, w5, z6, w6, z7, w7] =>
    if z0 = 0 ∧ z1 = 0 ∧ z2 = 0 ∧ z3 = 0 ∧ z4 = 0 ∧ z5 = 0 ∧ z6 = 0 ∧ z7 = 0 then
      .ok (.fullWrite #v[w0, w1, w2, w3, w4, w5, w6, w7])
    else .error .nonzeroFiller
  | _ => .error .undefinedLength

/-- What stands in front of a decoder: a request at the request port, or a message at the device. -/
inductive Encoded where
  | request (cw : CommandWord) (p : Payload)
  | wire (m : Message)
deriving DecidableEq, Repr

def decode : Encoded → Except Reject Instr
  | .request cw p => decodeRequest cw p
  | .wire m => decodeWire m

/-! ## Words numbered as opcode_table.json numbers them -/

/-- The `n` bytes of a number, most significant byte first: the table's wire rows put the first byte
sent in the highest bits ("the left 8 characters are the first byte sent", log 12). -/
def bytesHighFirst (n w : Nat) : Message :=
  (List.range n).map fun k => BitVec.ofNat 8 (w / 2 ^ (8 * (n - 1 - k)))

/-- A table word of `nbits` bits: wire rows are 8, 16 or 128 bits wide, a request is the 24 bits of CW
with its payload (no bits in the table) in the 64 bits above them. -/
def tableWord (nbits w : Nat) : Encoded :=
  match nbits with
  | 8 => .wire (bytesHighFirst 1 w)
  | 16 => .wire (bytesHighFirst 2 w)
  | 128 => .wire (bytesHighFirst 16 w)
  | _ => .request (BitVec.ofNat 24 w) (BitVec.ofNat 64 (w / 2 ^ 24))

def decodeTableWord (nbits w : Nat) : Option Instr :=
  (decode (tableWord nbits w)).toOption

/-! ## The request rows as mask and match (R52) -/

/-- A row of the opcode map: a word selects it when `CW & mask = match` (R52, R53). -/
structure OpcodeRow where
  mnemonic : String
  mask : CommandWord
  value : CommandWord
deriving DecidableEq, Repr

/-- The opcode map of R52, in its order. -/
def opcodeMap : List OpcodeRow :=
  [ ⟨"INIT", 0xFF0080, 0x010000⟩,
    ⟨"ON", 0xFFFFFF, 0x020000⟩,
    ⟨"OFF", 0xFFFFFF, 0x030000⟩,
    ⟨"SET_BRIGHTNESS", 0xFF00FF, 0x040000⟩,
    ⟨"SET_BLINKING", 0xFF00FF, 0x050000⟩,
    ⟨"SET", 0xFFFFFF, 0x060000⟩,
    ⟨"CLEAR", 0xFFFFFF, 0x070000⟩,
    ⟨"SET_ROW", 0xFF0000, 0x080000⟩,
    ⟨"CLEAR_ROW", 0xFF00FF, 0x090000⟩,
    ⟨"SET_COLUMN", 0xFF0000, 0x0A0000⟩,
    ⟨"CLEAR_COLUMN", 0xFF00FF, 0x0B0000⟩,
    ⟨"SET_PIXEL", 0xFF0000, 0x0C0000⟩,
    ⟨"CLEAR_PIXEL", 0xFF0000, 0x0D0000⟩ ]

/-! ## Encoding -/

/-- CW = {OP, A, B} (R50). -/
def commandWord (op a b : Byte) : CommandWord := op ++ a ++ b

/-- The words of an instruction: CW and P of a request (R50 to R52), the bytes of a wire message
(R58 to R64). An operation that ignores P is encoded with P = 0. -/
def encode : Instr → Encoded
  | .init brightness address => .request (commandWord 0x01 brightness (address.setWidth 8)) 0
  | .on => .request (commandWord 0x02 0 0) 0
  | .off => .request (commandWord 0x03 0 0) 0
  | .setBrightness level => .request (commandWord 0x04 level 0) 0
  | .setBlinking mode => .request (commandWord 0x05 mode 0) 0
  | .set bitmap => .request (commandWord 0x06 0 0) bitmap
  | .clear => .request (commandWord 0x07 0 0) 0
  | .setRow row byte => .request (commandWord 0x08 row byte) 0
  | .clearRow row => .request (commandWord 0x09 row 0) 0
  | .setColumn column byte => .request (commandWord 0x0A column byte) 0
  | .clearColumn column => .request (commandWord 0x0B column 0) 0
  | .setPixel row column => .request (commandWord 0x0C row column) 0
  | .clearPixel row column => .request (commandWord 0x0D row column) 0
  | .oscOn => .wire [oscByte]
  | .dimming level => .wire [brightnessByte level]
  | .displayOn mode => .wire [displayOnByte mode]
  | .displayOff => .wire [displayOffByte]
  | .rowWrite row wire => .wire [rowAddr row, wire]
  | .fullWrite wires => .wire (fullBytes wires)

end Sys2Proof
end

