-- ==== Sys2Proof/Machine/BitTransform.lean ====
section
/-! DEFINITION. The bit-transform unit: the pure functions of 40_bit_transform (R80 to R93). -/

namespace Sys2Proof.Machine

/-- `rotr8(b) = (b >> 1) | ((b & 0x01) << 7)` (R80). -/
def rotr8 (b : Byte) : Byte := (b >>> 1) ||| ((b &&& 0x01) <<< 7)

/-- `rotl8(b) = ((b << 1) & 0xFF) | (b >> 7)` (R81). -/
def rotl8 (b : Byte) : Byte := (b <<< 1) ||| (b >>> 7)

/-- `colmask(c) = 0x80 >> c` (R63, R83). -/
def colmask (c : Fin 8) : Byte := (0x80 : Byte) >>> c.val

/-- `getpixel(F, r, c) = (F[r] >> (7 - c)) & 1` (R11, R84). -/
def getpixel (f : Buffer) (r c : Fin 8) : BitVec 1 := (f[r] >>> (7 - c.val)).setWidth 1

/-- `setbit(b, c) = b | colmask(c)` (R90). -/
def setbit (b : Byte) (c : Fin 8) : Byte := b ||| colmask c

/-- `clrbit(b, c) = b & ~colmask(c)` (R90). -/
def clrbit (b : Byte) (c : Fin 8) : Byte := b &&& ~~~colmask c

/-- One pixel of a column, placed for row `k`: `getpixel(F, k, c) << (7 - k)` (R85). -/
def columnBit (f : Buffer) (c k : Fin 8) : Byte := (getpixel f k c).setWidth 8 <<< (7 - k.val)

/-- `getcol(F, c)`: row 0's pixel is the most significant bit (R85). -/
def getcol (f : Buffer) (c : Fin 8) : Byte :=
  columnBit f c 0 ||| columnBit f c 1 ||| columnBit f c 2 ||| columnBit f c 3 |||
    columnBit f c 4 ||| columnBit f c 5 ||| columnBit f c 6 ||| columnBit f c 7

/-- `clrcol(F, c)`: `G[k] = F[k] & ~colmask(c)` (R86). -/
def clrcol (f : Buffer) (c : Fin 8) : Buffer := Vector.ofFn fun k => clrbit f[k] c

/-- `setcol(F, c, b)`: clear the column, then OR the column bit into row k where bit `(b >> (7 - k)) & 1`
is 1: the most significant bit of b goes to row 0 (R87). -/
def setcol (f : Buffer) (c : Fin 8) (b : Byte) : Buffer :=
  Vector.ofFn fun k => if b.getLsbD (7 - k.val) then setbit (clrcol f c)[k] c else (clrcol f c)[k]

/-- `transpose(F)`: `T[c] = getcol(F, c)` (R89). -/
def transpose (f : Buffer) : Buffer := Vector.ofFn fun c => getcol f c

/-- `pack16(F)`: 0x00 at even indices, `rotr8(F[i])` at index 2i+1 (R64, R91). -/
def pack16 (f : Buffer) : Message := fullBytes (Vector.ofFn fun i => rotr8 f[i])

/-- A row number as the three bits of its row address (R62). -/
def rowBits (r : Fin 8) : BitVec 3 := BitVec.ofNat 3 r.val

/-- `rowmsg(F, r) = [2*r, rotr8(F[r])]` (R92). -/
def rowmsg (f : Buffer) (r : Fin 8) : Message := [rowAddr (rowBits r), rotr8 f[r]]

end Sys2Proof.Machine
end

