-- ==== Sys2Proof/Config.lean ====
section
/-! DEFINITION. What the spec leaves free (92_eei_decisions D13, D14; 93 U5, U11, U15), each an opaque
constant without a body, and the default bus address (R4). -/

namespace Sys2Proof

/-- The three transport failures (20_memory R30, 60_exceptions R151). -/
inductive TransportKind where
  | busNotAcquired
  | addressNotAcknowledged
  | writeTimeout
deriving DecidableEq, Repr

/-- The transport's answer to one Send (R7). -/
inductive Answer where
  | ok
  | err (kind : TransportKind)
deriving DecidableEq, Repr, Inhabited

namespace Config

/-- DEFAULT_ADDR of R4, the reset value of ADDR (R24). -/
def defaultAddr : BusAddress := 0x70

/-- The free draw of a transport answer (D13, D14, U15), by draw number: what the transport answers
once the listed replies of the state are used up. Never "no answer": the assumption
TRANSPORT_ANSWERS of R4 (log 4). -/
opaque answer : Nat → Answer

/-- OSC, DISP_ON, DISP_BLINK and DIM of the device before the first message (R44, U11): any value (log 6). -/
opaque powerOnOsc : Bool
opaque powerOnDispOn : Bool
opaque powerOnDispBlink : BitVec 2
opaque powerOnDim : BitVec 4
/-- The display-RAM byte at an address before the first message (R44, U11): any value (log 7). -/
opaque powerOnByte : Nat → Byte

/-- What a failed Send leaves in the device fields it covers (R43, U5), by draw number: any value (log 8). -/
opaque freeBit : Nat → Bool
opaque freeBlink : Nat → BitVec 2
opaque freeDim : Nat → BitVec 4
/-- The same for a display-RAM byte, by draw number and address. -/
opaque freeByte : Nat → Nat → Byte

end Config
end Sys2Proof
end

