-- ==== Sys2Proof/Machine/State.lean ====
section
/-! DEFINITION. The state of the machine (10_state, ports of 20_memory R30, 60 R150, 70 R185, ghost
traces R21, device mirror R44) as plain data, its faults and refusals, and the state after reset. -/

namespace Sys2Proof.Machine

/-- No instruction and no request of a host raises a fault: the block's errors are responses (R158). -/
inductive Fault where
  /-- Raised by the step when a byte sequence that no arm of R44 covers stands at the device's port:
  the spec gives the device no behaviour there (R65, U6). The block never sends one. Safe: the model
  stops (log 16). -/
  | unknownWireMessage
deriving DecidableEq, Repr

inductive Refusal where
  /-- Raised by an arm of exec whose instruction has no meaning yet. Safe. No arm raises it. -/
  | notModelled (mnemonic : String)
deriving DecidableEq, Repr

/-- STATUS of a response (R150). -/
inductive Status where
  | ok
  | transportError
  | invalidArgument
  | illegalOperation
  | notInitialised
deriving DecidableEq, Repr

/-- A response: STATUS and INFO (R150). -/
structure Response where
  status : Status
  info : BitVec 2
deriving DecidableEq, Repr

/-- A record of the ghost trace TX: address, message, answer (R21). -/
structure TxRecord where
  addr : BusAddress
  msg : Message
  answer : Answer
deriving DecidableEq, Repr

/-- What the transport does with a Send: it answers (R7), or it never does (R192, U7). -/
inductive Reply where
  | answered (answer : Answer)
  | silent
deriving DecidableEq, Repr

/-- What the host drives in one step: RESET, Q_VALID, Q_CW, Q_P (R180, R185). -/
structure HostLines where
  reset : Bool
  valid : Bool
  cw : CommandWord
  p : Payload
deriving DecidableEq, Repr

/-- The host asks nothing. -/
def HostLines.quiet : HostLines := ⟨false, false, 0, 0⟩

/-- The host offers a request. -/
def HostLines.offer (cw : CommandWord) (p : Payload) : HostLines := ⟨false, true, cw, p⟩

/-- The display RAM of the device: address and byte, the sixteen addresses 0x00 to 0x0F in order (R34, R44,
log 7). -/
abbrev Memory := List Host.Cell

/-- The first address past the display RAM 0x00..0x0F (R32, R44). -/
def ramSize : Nat := 16

/-- The device mirror DEV (R44). -/
structure Device where
  osc : Bool
  dispOn : Bool
  dispBlink : BitVec 2
  dim : BitVec 4
  ram : Memory
deriving DecidableEq, Repr

/-- The machine. `fb` to `phase` are the block's registers (10_state), `tPort` and `rPort` its ports,
`tx` and `rsp` the ghost traces (R21), `dev` the device mirror (R44); `inputs`, `replies` and
`draws` are the model's own: what host and transport are going to do, and the index of the next free
value. -/
structure State where
  fb : Buffer
  isOn : Bool
  blink : BitVec 2
  addr : BusAddress
  inited : Bool
  busy : Bool
  reqCw : CommandWord
  reqP : Payload
  phase : BitVec 3
  tPort : Option Message
  rPort : Option Response
  tx : List TxRecord
  rsp : List Response
  dev : Device
  inputs : List HostLines
  replies : List Reply
  draws : Nat
deriving DecidableEq, Repr

/-- The device when the model starts: every field and every RAM byte any value (R44, U11; log 6, 7). -/
def Device.powerOn : Device :=
  { osc := Config.powerOnOsc, dispOn := Config.powerOnDispOn, dispBlink := Config.powerOnDispBlink,
    dim := Config.powerOnDim, ram := (List.range ramSize).map fun a => (a, Config.powerOnByte a) }

/-- The state after reset (R24, R180). REQ_CW and REQ_P, unspecified there, are 0 (log 9). -/
def State.reset : State :=
  { fb := Vector.replicate 8 0x00
    isOn := false
    blink := 0
    addr := Config.defaultAddr
    inited := false
    busy := false
    reqCw := 0
    reqP := 0
    phase := 0
    tPort := none
    rPort := none
    tx := []
    rsp := []
    dev := Device.powerOn
    inputs := []
    replies := []
    draws := 0 }

end Sys2Proof.Machine
end

