-- ==== Sys2Proof/Machine/Memory.lean ====
section
/-! DEFINITION. The display RAM of the device (20_memory R34, R44): a canonical list of cells. -/

namespace Sys2Proof.Machine

/-- The byte at an address; none for an address that is not listed, which the RAM does not have (log 7). -/
def Memory.read (m : Memory) (a : Nat) : Option Byte :=
  match m with
  | [] => none
  | (x, v) :: rest => if x = a then some v else Memory.read rest a

/-- `RAM[a] <- v`, keeping addresses strictly rising. -/
def Memory.write (m : Memory) (a : Nat) (v : Byte) : Memory :=
  match m with
  | [] => [(a, v)]
  | (x, w) :: rest =>
    if x = a then (a, v) :: rest
    else if a < x then (a, v) :: (x, w) :: rest
    else (x, w) :: Memory.write rest a v

/-- `RAM[a + k] <- d[k]` for the bytes of `ds` in order: the device takes the bytes that follow the start
address at rising addresses (R44, sixth arm). -/
def Memory.writeFrom (m : Memory) (a : Nat) (ds : List Byte) : Memory :=
  match ds with
  | [] => m
  | d :: rest => Memory.writeFrom (Memory.write m a d) (a + 1) rest

/-- The addresses from `low` to the end of the RAM, each listed once and in order. -/
def Memory.wfFrom (low : Nat) (m : Memory) : Bool :=
  match m with
  | [] => low == ramSize
  | (x, _) :: rest => x == low && Memory.wfFrom (low + 1) rest

/-- The canonical form: exactly the addresses 0x00 to 0x0F, in order. -/
def Memory.wf (m : Memory) : Bool := Memory.wfFrom 0 m

end Sys2Proof.Machine
end

