-- ==== Sys2Proof/Machine/Device.lean ====
section
/-! DEFINITION. The reference receiver DEV (20_memory R44): what a message does to the device when the
transport answers ok, what a failed Send leaves (R43), and the picture the LEDs show (R44, R93). -/

namespace Sys2Proof.Machine

/-- The six arms of R44; none where no arm covers the message (R65). -/
def Device.receive (d : Device) (m : Message) : Option Device :=
  match m with
  | [b] =>
    if b = 0x21 then some { d with osc := true }
    else if b.extractLsb' 4 4 = 0xE then some { d with dim := b.extractLsb' 0 4 }
    else if b.extractLsb' 3 5 = 0b10000 ∧ b.getLsbD 0 then
      some { d with dispOn := true, dispBlink := b.extractLsb' 1 2 }
    else if b = 0x80 then some { d with dispOn := false }
    else none
  | [a, v] =>
    if a.toNat < ramSize ∧ a.toNat % 2 = 0 then some { d with ram := d.ram.write a.toNat v } else none
  | a :: ds =>
    if a = 0 ∧ ds.length = 15 then some { d with ram := d.ram.writeFrom 0 ds } else none
  | [] => none

/-- The device after a failed Send of `m`: the fields `m` would have written hold any value (R43, U5),
drawn as free values number `n` (log 8). -/
def Device.garble (d : Device) (n : Nat) (m : Message) : Device :=
  match m with
  | [b] =>
    if b = 0x21 then { d with osc := Config.freeBit n }
    else if b.extractLsb' 4 4 = 0xE then { d with dim := Config.freeDim n }
    else if b.extractLsb' 3 5 = 0b10000 ∧ b.getLsbD 0 then
      { d with dispOn := Config.freeBit n, dispBlink := Config.freeBlink n }
    else if b = 0x80 then { d with dispOn := Config.freeBit n }
    else d
  | [a, _] =>
    if a.toNat < ramSize ∧ a.toNat % 2 = 0 then
      { d with ram := d.ram.write a.toNat (Config.freeByte n a.toNat) }
    else d
  | a :: ds =>
    if a = 0 ∧ ds.length = 15 then
      { d with ram := d.ram.writeFrom 0 ((List.range 15).map (Config.freeByte n)) }
    else d
  | [] => d

/-- Row `i` of the logical picture the LEDs show: `rotl8(RAM[2*i])` (R44, R93). -/
def Device.pictureRow (d : Device) (i : Fin 8) : Option Byte := (d.ram.read (2 * i.val)).map rotl8

end Sys2Proof.Machine
end

