-- ==== Sys2Proof/Machine/Ops.lean ====
section
/-! DEFINITION. The shared operations: Send (00_scope R7), raise and the response (R8, R150), the micro-steps
of a body (R6), acceptance and the operation cycle (R9), and RESET (70 R180). -/

namespace Sys2Proof.Machine

/-! ## Host and transport -/

/-- What the host drives in this step; past the end of `inputs` it drives nothing (log 3). -/
def State.lines (s : State) : HostLines := s.inputs.headD HostLines.quiet

def State.nextLines (s : State) : State := { s with inputs := s.inputs.tail }

/-- What the transport does with the next Send: the listed reply, else a free draw (R7, D13, log 4). -/
def State.reply (s : State) : Reply :=
  match s.replies with
  | r :: _ => r
  | [] => .answered (Config.answer s.draws)

/-- The state once that reply has been taken: the list loses its head, or one free value is used up. -/
def State.takeReply (s : State) : State :=
  { s with replies := s.replies.tail, draws := if s.replies.isEmpty then s.draws + 1 else s.draws }

/-! ## Response and raise -/

/-- The number of a transport error kind on T_KIND and in INFO (R30, R150). -/
def kindCode : TransportKind → BitVec 2
  | .busNotAcquired => 1
  | .addressNotAcknowledged => 2
  | .writeTimeout => 3

/-- STATUS as the response port carries it (R150). -/
def statusCode : Status → BitVec 3
  | .ok => 0
  | .transportError => 1
  | .invalidArgument => 2
  | .illegalOperation => 3
  | .notInitialised => 4

/-- Which operand is out of range (R57, R152). -/
inductive Which where
  | operandA
  | operandB
deriving DecidableEq, Repr

/-- The four errors of an operation (R151 to R154). -/
inductive Exn where
  | transportError (kind : TransportKind)
  | invalidArgument (which : Which)
  | illegalOperation
  | notInitialised
deriving DecidableEq, Repr

/-- STATUS and INFO of an error (R150). -/
def exnResponse : Exn → Response
  | .transportError kind => ⟨.transportError, kindCode kind⟩
  | .invalidArgument .operandA => ⟨.invalidArgument, 1⟩
  | .invalidArgument .operandB => ⟨.invalidArgument, 2⟩
  | .illegalOperation => ⟨.illegalOperation, 0⟩
  | .notInitialised => ⟨.notInitialised, 0⟩

/-- Give the response and become idle (R9, R18, R150); the response is appended to RSP (R21). -/
def State.respond (s : State) (r : Response) : State :=
  { s with rsp := s.rsp ++ [r], rPort := some r, busy := false }

/-- `raise E(info)`: the operation stops, state writes already made stay, the response is given and the
block becomes idle (R8); nothing is saved and nothing else switches (R158). There is no return from
it: after the response the block accepts the next request (R161). -/
def State.raise (s : State) (e : Exn) : State := s.respond (exnResponse e)

/-! ## Send -/

/-- TX gains (ADDR, m, answer) (R7, R21). -/
def State.record (s : State) (m : Message) (answer : Answer) : State :=
  { s with tx := s.tx ++ [⟨s.addr, m, answer⟩] }

/-- The device takes a message (R44); one that no arm covers changes nothing here. -/
def State.deliver (s : State) (m : Message) : State :=
  { s with dev := (s.dev.receive m).getD s.dev }

/-- A Send answered ok (R7): recorded, and applied by the device as a whole (R38, R44). -/
def State.sendOk (s : State) (m : Message) : State :=
  (s.takeReply.record m .ok).deliver m

/-- A Send answered err: recorded, and what it covers on the device becomes any value (R43). -/
def State.sendErr (s : State) (m : Message) (kind : TransportKind) : State :=
  let t := s.takeReply.record m (.err kind)
  { t with dev := t.dev.garble t.draws m, draws := t.draws + 1 }

/-- A Send that is never answered: the message stands on the transport port and the block stays BUSY
(R192, log 5). -/
def State.hang (s : State) (m : Message) : State := { s with busy := true, tPort := some m }

/-! ## Micro-steps and the operation cycle -/

/-- A micro-step of a body: a write of block state, or one Send of a message built from the state (R6).
Neighbouring writes of the pseudocode count as one, as a 3-bit PHASE needs (log 10). -/
inductive Micro where
  | write (f : State → State)
  | send (m : State → Message)

/-- PHASE advances by one after a micro-step (R16, R18). -/
def State.advance (s : State) : State := { s with phase := s.phase + 1 }

/-- Run a body: the micro-steps in order, each Send answered before the next starts (R39), stopping at
the first failing Send (R8, R159); at the end the response (OK, 0) (R9). -/
def runBody (body : List Micro) (s : State) : State :=
  match body with
  | [] => s.respond ⟨.ok, 0⟩
  | .write f :: rest => runBody rest (f s).advance
  | .send m :: rest =>
    match s.reply with
    | .answered .ok => runBody rest (s.sendOk (m s)).advance
    | .answered (.err kind) => (s.sendErr (m s) kind).raise (.transportError kind)
    | .silent => s.hang (m s)

/-- The checks of the cycle after decoding, in their order: the INITED gate (R154), then the operands
(R57), then the body (R9, R157). -/
def gateAndOperands (s : State) (bad : Option Which) : Option Exn :=
  if s.inited then bad.map .invalidArgument else some .notInitialised

/-- The operation cycle after a check that gave `error` (R9): raise it, or run the body. -/
def runChecked (error : Option Exn) (body : List Micro) (s : State) : State :=
  match error with
  | some e => s.raise e
  | none => runBody body s

/-- Acceptance of a request (R9, R18): BUSY <- 1, REQ_CW and REQ_P take it, PHASE <- 0; the response of
the request before is no longer offered (log 15). -/
def State.accept (s : State) (cw : CommandWord) (p : Payload) : State :=
  { s with busy := true, reqCw := cw, reqP := p, phase := 0, rPort := none }

/-! ## RESET -/

/-- RESET (R180, R181): the block takes its reset values and the ghost traces are empty; the device keeps
what it has, except that a Send in flight is abandoned with the device-side effect of a failed Send.
The host's and the transport's future stays (log 14). -/
def State.resetBlock (s : State) : State :=
  match s.tPort with
  | none =>
    { State.reset with dev := s.dev, inputs := s.inputs, replies := s.replies, draws := s.draws }
  | some m =>
    { State.reset with
      dev := s.dev.garble s.draws m, inputs := s.inputs, replies := s.replies.tail,
      draws := s.draws + 1 }

end Sys2Proof.Machine
end

