-- ==== Sys2Proof/Machine/Operands.lean ====
section
/-! DEFINITION. Operand forms of the requests: legal ranges (30_encoding R57), extraction (R51), the payload
as rows (R36, R56). -/

namespace Sys2Proof.Machine

/-- Operand A checked against its greatest legal value (R57). -/
def checkA (a : Byte) (greatest : Nat) : Option Which :=
  if a.toNat ≤ greatest then none else some .operandA

/-- BRIGHT_MAX = 15 (R4, R57). -/
def checkLevel (a : Byte) : Option Which := checkA a 15
/-- BLINK_MAX = 3 (R4, R57). -/
def checkMode (a : Byte) : Option Which := checkA a 3
/-- A row or a column as operand A: 0..7 (R57). -/
def checkIndex (a : Byte) : Option Which := checkA a 7
/-- Row and column of a pixel, A before B (R57). -/
def checkPixel (a b : Byte) : Option Which :=
  if a.toNat ≤ 7 then (if b.toNat ≤ 7 then none else some .operandB) else some .operandA

/-- A row or column operand as an index; used only after the check that it is 0..7 (R57, log 18). -/
def index (a : Byte) : Fin 8 := ⟨a.toNat % 8, Nat.mod_lt _ (by decide)⟩

/-- A[3:0], the brightness level (R100, R142). -/
def levelOf (a : Byte) : BitVec 4 := a.extractLsb' 0 4
/-- A[1:0], the blink mode (R143). -/
def modeOf (a : Byte) : BitVec 2 := a.extractLsb' 0 2

/-- Row i of the bitmap is `P[8i+7:8i]` (R36, R56). -/
def payloadRow (p : Payload) (i : Fin 8) : Byte := p.extractLsb' (8 * i.val) 8

def payloadRows (p : Payload) : Buffer := Vector.ofFn fun i => payloadRow p i

/-- Eight dark rows. -/
def clearRows : Buffer := Vector.replicate 8 0x00

/-! ## State writes and messages of the bodies -/

/-- FB[row] (R10). -/
def readRow (row : Fin 8) (s : State) : Byte := s.fb[row]
/-- FB[row] <- v (R10). -/
def writeRow (row : Fin 8) (v : Byte) (s : State) : State := { s with fb := s.fb.set row v }
/-- FB[0..7] <- f (R10). -/
def writeRows (f : Buffer) (s : State) : State := { s with fb := f }

/-- The row message of the frame buffer as it is when the message is built (R92). -/
def sendRow (row : Fin 8) : Micro := .send fun s => rowmsg s.fb row
/-- The full-buffer message of the frame buffer as it is when the message is built (R91). -/
def sendFull : Micro := .send fun s => pack16 s.fb
def sendBrightness (level : BitVec 4) : Micro := .send fun _ => [brightnessByte level]
def sendOsc : Micro := .send fun _ => [oscByte]
/-- The display-on byte with the cached blink mode (R61, R140). -/
def sendDisplayOn : Micro := .send fun s => [displayOnByte s.blink]
def sendDisplayOff : Micro := .send fun _ => [displayOffByte]

end Sys2Proof.Machine
end

