-- ==== Sys2Proof/Machine/Flags.lean ====
section
/-! DEFINITION. The control and status registers as the operations write them (10_state R13 to R17). The block
has no condition codes (R94). -/

namespace Sys2Proof.Machine

/-- IS_ON <- v (R13). -/
def writeIsOn (v : Bool) (s : State) : State := { s with isOn := v }
/-- BLINK <- v (R14). -/
def writeBlink (v : BitVec 2) (s : State) : State := { s with blink := v }
/-- INITED <- v (R17). -/
def writeInited (v : Bool) (s : State) : State := { s with inited := v }
/-- The creation step of INIT: INITED, ADDR, BLINK, IS_ON and FB before anything is sent (R100, D10). -/
def writeCreation (address : BusAddress) (s : State) : State :=
  { s with inited := false, addr := address, blink := 0, isOn := false, fb := clearRows }

end Sys2Proof.Machine
end

