-- ==== Sys2Proof/Machine/Column.lean ====
section
/-! DEFINITION. Column operations (42_column R110, R111). -/

namespace Sys2Proof.Machine

def setColumnBody (column byte : Byte) : List Micro :=
  [.write fun s => writeRows (setcol s.fb (index column) byte) s, sendFull]

/-- SET_COLUMN column, byte (R110). -/
def execSetColumn (column byte : Byte) (s : State) : Host.Outcome State Fault Refusal :=
  .next (runChecked (gateAndOperands s (checkIndex column)) (setColumnBody column byte) s)

def clearColumnBody (column : Byte) : List Micro :=
  [.write fun s => writeRows (clrcol s.fb (index column)) s, sendFull]

/-- CLEAR_COLUMN column (R111). -/
def execClearColumn (column : Byte) (s : State) : Host.Outcome State Fault Refusal :=
  .next (runChecked (gateAndOperands s (checkIndex column)) (clearColumnBody column) s)

end Sys2Proof.Machine
end

