-- ==== Sys2Proof/Machine/Display.lean ====
section
/-! DEFINITION. Display state control (45_display_control R140 to R143). -/

namespace Sys2Proof.Machine

def onBody : List Micro := [.write (writeIsOn true), sendDisplayOn]

/-- ON (R140). -/
def execOn (s : State) : Host.Outcome State Fault Refusal :=
  .next (runChecked (gateAndOperands s none) onBody s)

def offBody : List Micro := [.write (writeIsOn false), sendDisplayOff]

/-- OFF (R141). -/
def execOff (s : State) : Host.Outcome State Fault Refusal :=
  .next (runChecked (gateAndOperands s none) offBody s)

def setBrightnessBody (level : Byte) : List Micro := [sendBrightness (levelOf level)]

/-- SET_BRIGHTNESS level (R142). -/
def execSetBrightness (level : Byte) (s : State) : Host.Outcome State Fault Refusal :=
  .next (runChecked (gateAndOperands s (checkLevel level)) (setBrightnessBody level) s)

/-- The body of SET_BLINKING: the mode is stored, and the body of ON follows when IS_ON = 1 (R143, D23).
No micro-step before the test changes IS_ON. -/
def setBlinkingBody (mode : Byte) (isOn : Bool) : List Micro :=
  .write (writeBlink (modeOf mode)) :: if isOn then onBody else []

/-- SET_BLINKING mode (R143). -/
def execSetBlinking (mode : Byte) (s : State) : Host.Outcome State Fault Refusal :=
  .next (runChecked (gateAndOperands s (checkMode mode)) (setBlinkingBody mode s.isOn) s)

end Sys2Proof.Machine
end

