-- ==== Sys2Proof/Machine/FullBuffer.lean ====
section
/-! DEFINITION. Full-buffer operations (44_full_buffer R130, R131). -/

namespace Sys2Proof.Machine

def setBody (bitmap : Payload) : List Micro := [.write (writeRows (payloadRows bitmap)), sendFull]

/-- SET b0..b7 (R130): every payload is a legal bitmap, so only the gate is checked. -/
def execSet (bitmap : Payload) (s : State) : Host.Outcome State Fault Refusal :=
  .next (runChecked (gateAndOperands s none) (setBody bitmap) s)

def clearBody : List Micro := [.write (writeRows clearRows), sendFull]

/-- CLEAR (R131). -/
def execClear (s : State) : Host.Outcome State Fault Refusal :=
  .next (runChecked (gateAndOperands s none) clearBody s)

end Sys2Proof.Machine
end

