-- ==== Sys2Proof/Machine/Init.lean ====
section
/-! DEFINITION. INIT (41_init R100 to R102). -/

namespace Sys2Proof.Machine

/-- The body of INIT: creation, (a) oscillator, (b) brightness, (c) clear and flush, (d) display on (R100). -/
def initBody (brightness : Byte) (address : BusAddress) : List Micro :=
  [ .write (writeCreation address),
    sendOsc,
    sendBrightness (levelOf brightness),
    .write (writeRows clearRows),
    sendFull,
    .write (writeIsOn true),
    sendDisplayOn,
    .write (writeInited true) ]

/-- INIT passes no INITED gate (R9, R102); its only check is the brightness (R57). -/
def initCheck (brightness : Byte) : Option Exn := (checkLevel brightness).map .invalidArgument

/-- INIT brightness, address (R100, R101, R102). -/
def execInit (brightness : Byte) (address : BusAddress) (s : State) :
    Host.Outcome State Fault Refusal :=
  .next (runChecked (initCheck brightness) (initBody brightness address) s)

end Sys2Proof.Machine
end

