-- ==== Sys2Proof/Machine/RowPixel.lean ====
section
/-! DEFINITION. Row and pixel operations (43_row_pixel R120 to R123). -/

namespace Sys2Proof.Machine

def setRowBody (row byte : Byte) : List Micro :=
  [.write (writeRow (index row) byte), sendRow (index row)]

/-- SET_ROW row, byte (R120). -/
def execSetRow (row byte : Byte) (s : State) : Host.Outcome State Fault Refusal :=
  .next (runChecked (gateAndOperands s (checkIndex row)) (setRowBody row byte) s)

/-- The message of CLEAR_ROW is written out in R121: `[2*A, 0x00]`. -/
def clearRowBody (row : Byte) : List Micro :=
  [.write (writeRow (index row) 0x00), .send fun _ => [rowAddr (rowBits (index row)), 0x00]]

/-- CLEAR_ROW row (R121). -/
def execClearRow (row : Byte) (s : State) : Host.Outcome State Fault Refusal :=
  .next (runChecked (gateAndOperands s (checkIndex row)) (clearRowBody row) s)

def setPixelBody (row column : Byte) : List Micro :=
  [ .write fun s => writeRow (index row) (setbit (readRow (index row) s) (index column)) s,
    sendRow (index row) ]

/-- SET_PIXEL row, column (R122). -/
def execSetPixel (row column : Byte) (s : State) : Host.Outcome State Fault Refusal :=
  .next (runChecked (gateAndOperands s (checkPixel row column)) (setPixelBody row column) s)

def clearPixelBody (row column : Byte) : List Micro :=
  [ .write fun s => writeRow (index row) (clrbit (readRow (index row) s) (index column)) s,
    sendRow (index row) ]

/-- CLEAR_PIXEL row, column (R123). -/
def execClearPixel (row column : Byte) (s : State) : Host.Outcome State Fault Refusal :=
  .next (runChecked (gateAndOperands s (checkPixel row column)) (clearPixelBody row column) s)

end Sys2Proof.Machine
end

