-- ==== Sys2Proof/Machine/Wire.lean ====
section
/-! DEFINITION. The six wire messages as the device executes them (30_encoding R58 to R64, 20_memory R44): each
is its bytes, taken by the receiver. The block's registers and traces are not touched. -/

namespace Sys2Proof.Machine

/-- OSC_ON: OSC <- 1 (R44, R59). -/
def execOscOn (s : State) : Host.Outcome State Fault Refusal := .next (s.deliver [oscByte])

/-- DIMMING level: DIM <- level (R44, R60). -/
def execDimming (level : BitVec 4) (s : State) : Host.Outcome State Fault Refusal :=
  .next (s.deliver [brightnessByte level])

/-- DISPLAY_ON mode: DISP_ON <- 1, DISP_BLINK <- mode (R44, R61). -/
def execDisplayOn (mode : BitVec 2) (s : State) : Host.Outcome State Fault Refusal :=
  .next (s.deliver [displayOnByte mode])

/-- DISPLAY_OFF: DISP_ON <- 0 (R44, R61; DISP_BLINK stays, log 11). -/
def execDisplayOff (s : State) : Host.Outcome State Fault Refusal := .next (s.deliver [displayOffByte])

/-- ROW_WRITE row, wire byte: RAM[2*row] <- wire byte (R44, R62). -/
def execRowWrite (row : BitVec 3) (wire : Byte) (s : State) : Host.Outcome State Fault Refusal :=
  .next (s.deliver [rowAddr row, wire])

/-- FULL_WRITE: RAM[k-1] <- byte k for k in 1..15 (R44, R64). -/
def execFullWrite (wires : Buffer) (s : State) : Host.Outcome State Fault Refusal :=
  .next (s.deliver (fullBytes wires))

end Sys2Proof.Machine
end

