-- ==== Sys2Proof/Machine/Dispatch.lean ====
section
/-! DEFINITION. One arm per constructor of Instr: the meaning of the instruction. -/

namespace Sys2Proof.Machine

def exec (i : Instr) (s : State) : Host.Outcome State Fault Refusal :=
  match i with
  | .init brightness address => Sys2Proof.Machine.execInit brightness address s
  | .on => Sys2Proof.Machine.execOn s
  | .off => Sys2Proof.Machine.execOff s
  | .setBrightness level => Sys2Proof.Machine.execSetBrightness level s
  | .setBlinking mode => Sys2Proof.Machine.execSetBlinking mode s
  | .set bitmap => Sys2Proof.Machine.execSet bitmap s
  | .clear => Sys2Proof.Machine.execClear s
  | .setRow row byte => Sys2Proof.Machine.execSetRow row byte s
  | .clearRow row => Sys2Proof.Machine.execClearRow row s
  | .setColumn column byte => Sys2Proof.Machine.execSetColumn column byte s
  | .clearColumn column => Sys2Proof.Machine.execClearColumn column s
  | .setPixel row column => Sys2Proof.Machine.execSetPixel row column s
  | .clearPixel row column => Sys2Proof.Machine.execClearPixel row column s
  | .oscOn => Sys2Proof.Machine.execOscOn s
  | .dimming level => Sys2Proof.Machine.execDimming level s
  | .displayOn mode => Sys2Proof.Machine.execDisplayOn mode s
  | .displayOff => Sys2Proof.Machine.execDisplayOff s
  | .rowWrite row wire => Sys2Proof.Machine.execRowWrite row wire s
  | .fullWrite wires => Sys2Proof.Machine.execFullWrite wires s

end Sys2Proof.Machine
end

