-- ==== Sys2Proof/Machine/Cycle.lean ====
section
/-! DEFINITION. The turns a step consists of: the operation cycle of a request (00_scope R9), the device's
turn, and the step of the host's lines (70 R180, R185). Machine/Step.lean only calls them. -/

namespace Sys2Proof.Machine

/-- The whole operation cycle of a request accepted when BUSY = 0 (R9): acceptance, decode, and the
operation; an undecodable word raises IllegalOperation before anything else (R153). -/
def State.request (s : State) (cw : CommandWord) (p : Payload) : Host.Outcome State Fault Refusal :=
  match decodeRequest cw p with
  | .ok i => exec i (s.accept cw p)
  | .error _ => .next ((s.accept cw p).raise .illegalOperation)

/-- A message stands on the transport port of an idle block: the device takes it from there and executes
it (log 1, 13). A message that is no row of the table but has the shape of an arm of R44 is received
by that arm (log 17); any other is a fault (log 16). -/
def State.deviceTurn (s : State) (m : Message) : Host.Outcome State Fault Refusal :=
  match decodeWire m with
  | .ok i => exec i { s with tPort := none }
  | .error _ =>
    match s.dev.receive m with
    | some d => .next { s with tPort := none, dev := d }
    | none => .fault .unknownWireMessage

/-- One step of the host's lines: RESET (R180); a request offered to a busy block is not accepted (R185)
and the block goes on waiting (R192); a request offered to an idle block is run to its response; with
nothing offered nothing happens (R156). -/
def State.hostTurn (s : State) (l : HostLines) : Host.Outcome State Fault Refusal :=
  if l.reset then .next s.resetBlock
  else if s.busy then .next s
  else if l.valid then s.request l.cw l.p
  else .next s

/-- Which turn it is: the device's when a message stands on the port of an idle block, else the host's. -/
def State.turn (s : State) : Host.Outcome State Fault Refusal :=
  match s.busy, s.tPort with
  | false, some m => s.deviceTurn m
  | _, _ => s.nextLines.hostTurn s.lines

/-- Place an instruction where `turn` takes its next one: a request on the host's lines, a wire message on
the transport port (log 13). -/
def State.place (s : State) (e : Encoded) : State :=
  match e with
  | .request cw p =>
    { s with busy := false, tPort := none, inputs := HostLines.offer cw p :: s.inputs }
  | .wire m => { s with busy := false, tPort := some m }

end Sys2Proof.Machine
end

