-- ==== Sys2Proof/Machine/Step.lean ====
section
/-! DEFINITION. The step of the machine. -/

namespace Sys2Proof.Machine

/-- One step: a whole operation cycle of an accepted request (R9 allows it as one transition), RESET, the
device's turn, or nothing. -/
def step (s : State) : Host.Outcome State Fault Refusal := s.turn

/-- `s` with a table word placed so that the next step runs it. -/
def State.withFetchWord (s : State) (nbits w : Nat) : State := s.place (tableWord nbits w)

end Sys2Proof.Machine
end

