-- ==== Sys2Proof/Machine/Assembly.lean ====
section
/-! DEFINITION. The written form of a request (30_encoding R66): the mnemonic in capitals, then its operands in
the order A, B, separated by commas, in decimal or 0x hexadecimal; SET takes eight bytes in row order. -/

namespace Sys2Proof.Machine

/-- The value of a digit of either base, in either case. -/
def digitValue (c : Char) : Option Nat :=
  if '0' ≤ c ∧ c ≤ '9' then some (c.toNat - '0'.toNat)
  else if 'a' ≤ c ∧ c ≤ 'f' then some (c.toNat - 'a'.toNat + 10)
  else if 'A' ≤ c ∧ c ≤ 'F' then some (c.toNat - 'A'.toNat + 10)
  else none

/-- Digits of base `base` read behind the value `acc`. -/
def digitsValue (base acc : Nat) (cs : List Char) : Option Nat :=
  match cs with
  | [] => some acc
  | c :: rest =>
    match digitValue c with
    | some d => if d < base then digitsValue base (base * acc + d) rest else none
    | none => none

/-- A decimal or 0x hexadecimal numeral (R66). DESIGN CHOICE (log 20): digits without 0x are decimal, although the
tables of 95_test_vectors also write bytes in bare hexadecimal (their SET_ROW 2, 81 is 0x080281). -/
def numeral (cs : List Char) : Option Nat :=
  match cs with
  | '0' :: 'x' :: d :: rest => digitsValue 16 0 (d :: rest)
  | d :: rest => digitsValue 10 0 (d :: rest)
  | [] => none

/-- Pieces of a text between separators. -/
def pieces (sep : Char) (cs : List Char) : List (List Char) :=
  match cs with
  | [] => [[]]
  | c :: rest =>
    if c = sep then [] :: pieces sep rest
    else
      match pieces sep rest with
      | p :: ps => (c :: p) :: ps
      | [] => [[c]]

/-- A request from its mnemonic and its operands' numbers; an operand that its field cannot hold, and a
wrong number of operands, are refused (log 20). -/
def requestOf (mnemonic : List Char) (operands : List Nat) : Option Instr :=
  if operands.any (256 ≤ ·) then none
  else
    match String.ofList mnemonic, operands with
    | "INIT", [a, b] => if b < 128 then some (.init (BitVec.ofNat 8 a) (BitVec.ofNat 7 b)) else none
    | "ON", [] => some .on
    | "OFF", [] => some .off
    | "SET_BRIGHTNESS", [a] => some (.setBrightness (BitVec.ofNat 8 a))
    | "SET_BLINKING", [a] => some (.setBlinking (BitVec.ofNat 8 a))
    | "SET", [b0, b1, b2, b3, b4, b5, b6, b7] =>
      some (.set (BitVec.ofNat 8 b7 ++ BitVec.ofNat 8 b6 ++ BitVec.ofNat 8 b5 ++ BitVec.ofNat 8 b4 ++
        BitVec.ofNat 8 b3 ++ BitVec.ofNat 8 b2 ++ BitVec.ofNat 8 b1 ++ BitVec.ofNat 8 b0))
    | "CLEAR", [] => some .clear
    | "SET_ROW", [a, b] => some (.setRow (BitVec.ofNat 8 a) (BitVec.ofNat 8 b))
    | "CLEAR_ROW", [a] => some (.clearRow (BitVec.ofNat 8 a))
    | "SET_COLUMN", [a, b] => some (.setColumn (BitVec.ofNat 8 a) (BitVec.ofNat 8 b))
    | "CLEAR_COLUMN", [a] => some (.clearColumn (BitVec.ofNat 8 a))
    | "SET_PIXEL", [a, b] => some (.setPixel (BitVec.ofNat 8 a) (BitVec.ofNat 8 b))
    | "CLEAR_PIXEL", [a, b] => some (.clearPixel (BitVec.ofNat 8 a) (BitVec.ofNat 8 b))
    | _, _ => none

/-- All pieces as numerals. -/
def numerals (ps : List (List Char)) : Option (List Nat) :=
  match ps with
  | [] => some []
  | p :: rest =>
    match numeral p, numerals rest with
    | some n, some ns => some (n :: ns)
    | _, _ => none

/-- A written request as the words at the request port: the text up to the first blank is the mnemonic,
the rest, blanks left out, the operands (R66). -/
def assemble (text : String) : Option Encoded :=
  let mnemonic := text.toList.takeWhile (· ≠ ' ')
  let operands := (text.toList.drop mnemonic.length).filter (· ≠ ' ')
  match numerals (if operands.isEmpty then [] else pieces ',' operands) with
  | some ns => (requestOf mnemonic ns).map encode
  | none => none

end Sys2Proof.Machine
end

