-- ==== Sys2Proof/Machine/Micro.lean ====
section
/-! DEFINITION. The micro-step machine: the same block one micro-step at a time, by BUSY, REQ_CW, REQ_P and
PHASE (10_state R18, 00_scope R6, R9). It shows what the whole cycle hides: the state between
micro-steps that the debug port shows (60 R170, 70 R186), and a RESET in the middle of an operation
(70 R180). -/

namespace Sys2Proof.Machine

/-- The check of an operation before its body (R9, R57); a wire message is no request. -/
def checkOf (i : Instr) (s : State) : Option Exn :=
  match i with
  | .init brightness _ => initCheck brightness
  | .on => gateAndOperands s none
  | .off => gateAndOperands s none
  | .setBrightness level => gateAndOperands s (checkLevel level)
  | .setBlinking mode => gateAndOperands s (checkMode mode)
  | .set _ => gateAndOperands s none
  | .clear => gateAndOperands s none
  | .setRow row _ => gateAndOperands s (checkIndex row)
  | .clearRow row => gateAndOperands s (checkIndex row)
  | .setColumn column _ => gateAndOperands s (checkIndex column)
  | .clearColumn column => gateAndOperands s (checkIndex column)
  | .setPixel row column => gateAndOperands s (checkPixel row column)
  | .clearPixel row column => gateAndOperands s (checkPixel row column)
  | .oscOn => some .illegalOperation
  | .dimming _ => some .illegalOperation
  | .displayOn _ => some .illegalOperation
  | .displayOff => some .illegalOperation
  | .rowWrite _ _ => some .illegalOperation
  | .fullWrite _ => some .illegalOperation

/-- The body of an operation (files 41 to 45). -/
def bodyOf (i : Instr) (s : State) : List Micro :=
  match i with
  | .init brightness address => initBody brightness address
  | .on => onBody
  | .off => offBody
  | .setBrightness level => setBrightnessBody level
  | .setBlinking mode => setBlinkingBody mode s.isOn
  | .set bitmap => setBody bitmap
  | .clear => clearBody
  | .setRow row byte => setRowBody row byte
  | .clearRow row => clearRowBody row
  | .setColumn column byte => setColumnBody column byte
  | .clearColumn column => clearColumnBody column
  | .setPixel row column => setPixelBody row column
  | .clearPixel row column => clearPixelBody row column
  | .oscOn => []
  | .dimming _ => []
  | .displayOn _ => []
  | .displayOff => []
  | .rowWrite _ _ => []
  | .fullWrite _ => []

/-- Acceptance and the three checks, which come before any micro-step (R9). -/
def State.begin (s : State) (cw : CommandWord) (p : Payload) : State :=
  match decodeRequest cw p with
  | .ok i =>
    match checkOf i (s.accept cw p) with
    | some e => (s.accept cw p).raise e
    | none => s.accept cw p
  | .error _ => (s.accept cw p).raise .illegalOperation

/-- After a micro-step: PHASE advances, and behind the last one the response (OK, 0) is given (R9, R18). -/
def State.finish (s : State) (rest : List Micro) : State :=
  if rest.isEmpty then s.advance.respond ⟨.ok, 0⟩ else s.advance

/-- The micro-step that PHASE names; `todo` is what is left of the body from there. -/
def State.micro (s : State) (todo : List Micro) : State :=
  match todo with
  | [] => s
  | .write f :: rest => (f s).finish rest
  | .send m :: rest =>
    match s.reply with
    | .answered .ok => (s.sendOk (m s)).finish rest
    | .answered (.err kind) => (s.sendErr (m s) kind).raise (.transportError kind)
    | .silent => s.hang (m s)

/-- One micro-step of the running operation, found from REQ_CW, REQ_P and PHASE alone (R18). -/
def State.resume (s : State) : State :=
  match decodeRequest s.reqCw s.reqP with
  | .ok i => s.micro ((bodyOf i s).drop s.phase.toNat)
  | .error _ => s

/-- One step of the block at micro-step grain, with the host's lines as an input. -/
def State.tick (s : State) (l : HostLines) : State :=
  if l.reset then s.resetBlock
  else if s.busy then s.resume
  else if l.valid then s.begin l.cw l.p
  else s

/-- `n` ticks in which the host drives nothing. -/
def State.ticks (s : State) (n : Nat) : State :=
  match n with
  | 0 => s
  | k + 1 => (s.tick HostLines.quiet).ticks k

end Sys2Proof.Machine
end

