-- ==== Sys2Proof/Machine/Ports.lean ====
section
/-! DEFINITION. The ports as views of the state: the transport port (20_memory R30), the request and response
ports (70 R185, 60 R150) and the debug read port (60 R170). -/

namespace Sys2Proof.Machine

/-! ## Transport port (R30) -/

/-- T_DATA: byte k of the message in bits 8k+7:8k, zeros above (R30). -/
def packBytes (m : Message) : BitVec 128 :=
  match m with
  | [] => 0
  | b :: rest => b.setWidth 128 ||| (packBytes rest <<< 8)

structure TransportPort where
  tValid : Bool
  tAddr : BusAddress
  tLen : BitVec 5
  tData : BitVec 128
deriving DecidableEq, Repr

/-- The port while the block with bus address `addr` offers `m` (R30). -/
def offered (addr : BusAddress) (m : Message) : TransportPort :=
  ⟨true, addr, BitVec.ofNat 5 m.length, packBytes m⟩

/-- The port of a state: a transaction stands on it only while its Send is unanswered. T_ADDR is always ADDR
(R30). What T_LEN and T_DATA are while T_VALID = 0 the spec does not say: DESIGN CHOICE, both 0 (log 27). -/
def State.transportPort (s : State) : TransportPort :=
  match s.tPort with
  | some m => offered s.addr m
  | none => ⟨false, s.addr, 0, 0⟩

/-- T_ERR and T_KIND of an answer (R30). T_KIND with T_ERR = 0, which the block ignores, is put at 0: DESIGN CHOICE
(log 27). -/
def answerSignals : Answer → Bool × BitVec 2
  | .ok => (false, 0)
  | .err kind => (true, kindCode kind)

/-- The answer that T_ERR and T_KIND carry: T_KIND is ignored with T_ERR = 0, and kind 0 is no kind (R30). -/
def answerOfSignals (tErr : Bool) (tKind : BitVec 2) : Option Answer :=
  if tErr then
    match tKind.toNat with
    | 1 => some (.err .busNotAcquired)
    | 2 => some (.err .addressNotAcknowledged)
    | 3 => some (.err .writeTimeout)
    | _ => none
  else some .ok

/-! ## Request and response ports (R185, R150) -/

/-- Q_READY = not BUSY and not RESET (R185). -/
def State.qReady (s : State) (l : HostLines) : Bool := !s.busy && !l.reset

structure ResponsePort where
  rValid : Bool
  rStatus : BitVec 3
  rInfo : BitVec 2
deriving DecidableEq, Repr

/-- R_VALID, R_STATUS, R_INFO (R150, R185). What R_STATUS and R_INFO are while R_VALID = 0 the spec does not say:
DESIGN CHOICE, both 0 (log 27). -/
def State.responsePort (s : State) : ResponsePort :=
  match s.rPort with
  | some r => ⟨true, statusCode r.status, r.info⟩
  | none => ⟨false, 0, 0⟩

/-! ## Debug read port (R170) -/

structure DebugPort where
  dFb : Buffer
  dIsOn : Bool
  dBlink : BitVec 2
  dAddr : BusAddress
  dInited : Bool
  dBusy : Bool
deriving DecidableEq, Repr

/-- The debug port shows the registers as they are and changes nothing (R170). -/
def State.debugPort (s : State) : DebugPort :=
  ⟨s.fb, s.isOn, s.blink, s.addr, s.inited, s.busy⟩

end Sys2Proof.Machine
end

