-- ==== Sys2Proof/Safety.lean ====
section
/-! DEFINITION. The terms in which claims are made: coming replies, a plain response, the effects of a row, full
and command operation on block and device, what the traces say was last sent, and the invariants. -/

namespace Sys2Proof

open Machine

/-! ## Replies and responses -/

/-- The state once `k` replies have been taken. -/
def taken (s : State) (k : Nat) : State := State.takeReply^[k] s

/-- The reply that the Send number `k` from here gets, counting from 0. -/
def coming (s : State) (k : Nat) : Reply := (taken s k).reply

/-- `s` with one more response and nothing else changed but BUSY, which is 0 (R8, R150, R158). -/
def answered (s : State) (status : Status) (info : BitVec 2) : State :=
  { s with rsp := s.rsp ++ [⟨status, info⟩], rPort := some ⟨status, info⟩, busy := false }

/-! ## Operand errors, as R57 lists them -/

/-- INFO of the InvalidArgument an operation with these operands raises, if it raises one (R57, R152). -/
def operandError : Instr → Option (BitVec 2)
  | .init brightness _ => if 15 < brightness.toNat then some 1 else none
  | .on => none
  | .off => none
  | .setBrightness level => if 15 < level.toNat then some 1 else none
  | .setBlinking mode => if 3 < mode.toNat then some 1 else none
  | .set _ => none
  | .clear => none
  | .setRow row _ => if 7 < row.toNat then some 1 else none
  | .clearRow row => if 7 < row.toNat then some 1 else none
  | .setColumn column _ => if 7 < column.toNat then some 1 else none
  | .clearColumn column => if 7 < column.toNat then some 1 else none
  | .setPixel row column =>
    if 7 < row.toNat then some 1 else if 7 < column.toNat then some 2 else none
  | .clearPixel row column =>
    if 7 < row.toNat then some 1 else if 7 < column.toNat then some 2 else none
  | .oscOn => none
  | .dimming _ => none
  | .displayOn _ => none
  | .displayOff => none
  | .rowWrite _ _ => none
  | .fullWrite _ => none

/-- The instruction is an INIT. -/
def isInit : Instr → Bool
  | .init _ _ => true
  | _ => false

/-! ## Effects of the three kinds of one-message operation (R120 to R123, R110, R111, R130, R131, R140 to R143)

What the block does, and, apart from it, what the device mirror of R44 does. PHASE is left open (log 10). -/

/-- Row operation: FB[r] takes `v`, the message is `[2*r, rotr8(v)]`; answered err, the register keeps `v`.
Everything of the block that is not named is unchanged. -/
def RowOperation (i : Instr) (s : State) (r : Fin 8) (v : Byte) : Prop :=
  (s.reply = .answered .ok →
    ∃ (phase : BitVec 3) (dev : Device),
      exec i s = .next
        { s.takeReply with
          fb := s.fb.set r v, phase := phase, busy := false, dev := dev,
          tx := s.tx ++ [⟨s.addr, [BitVec.ofNat 8 (2 * r.val), rotr8 v], .ok⟩],
          rsp := s.rsp ++ [⟨.ok, 0⟩], rPort := some ⟨.ok, 0⟩ }) ∧
  ∀ kind, s.reply = .answered (.err kind) →
    ∃ (phase : BitVec 3) (dev : Device) (draws : Nat),
      exec i s = .next
        { s.takeReply with
          fb := s.fb.set r v, phase := phase, busy := false, dev := dev, draws := draws,
          tx := s.tx ++ [⟨s.addr, [BitVec.ofNat 8 (2 * r.val), rotr8 v], .err kind⟩],
          rsp := s.rsp ++ [⟨.transportError, kindCode kind⟩],
          rPort := some ⟨.transportError, kindCode kind⟩ }

/-- Full-buffer operation: FB takes `f`, the message is `pack16(f)`; answered err, the registers keep `f`.
Everything of the block that is not named is unchanged. -/
def FullOperation (i : Instr) (s : State) (f : Buffer) : Prop :=
  (s.reply = .answered .ok →
    ∃ (phase : BitVec 3) (dev : Device),
      exec i s = .next
        { s.takeReply with
          fb := f, phase := phase, busy := false, dev := dev,
          tx := s.tx ++ [⟨s.addr, pack16 f, .ok⟩],
          rsp := s.rsp ++ [⟨.ok, 0⟩], rPort := some ⟨.ok, 0⟩ }) ∧
  ∀ kind, s.reply = .answered (.err kind) →
    ∃ (phase : BitVec 3) (dev : Device) (draws : Nat),
      exec i s = .next
        { s.takeReply with
          fb := f, phase := phase, busy := false, dev := dev, draws := draws,
          tx := s.tx ++ [⟨s.addr, pack16 f, .err kind⟩],
          rsp := s.rsp ++ [⟨.transportError, kindCode kind⟩],
          rPort := some ⟨.transportError, kindCode kind⟩ }

/-- Command operation: the shadow registers take `isOn` and `blink`, the message is the one byte `b`; answered
err, the shadow registers keep the new values. Everything of the block that is not named is unchanged,
FB too. -/
def CommandOperation (i : Instr) (s : State) (isOn : Bool) (blink : BitVec 2) (b : Byte) : Prop :=
  (s.reply = .answered .ok →
    ∃ (phase : BitVec 3) (dev : Device),
      exec i s = .next
        { s.takeReply with
          isOn := isOn, blink := blink, phase := phase, busy := false, dev := dev,
          tx := s.tx ++ [⟨s.addr, [b], .ok⟩],
          rsp := s.rsp ++ [⟨.ok, 0⟩], rPort := some ⟨.ok, 0⟩ }) ∧
  ∀ kind, s.reply = .answered (.err kind) →
    ∃ (phase : BitVec 3) (dev : Device) (draws : Nat),
      exec i s = .next
        { s.takeReply with
          isOn := isOn, blink := blink, phase := phase, busy := false, dev := dev, draws := draws,
          tx := s.tx ++ [⟨s.addr, [b], .err kind⟩],
          rsp := s.rsp ++ [⟨.transportError, kindCode kind⟩],
          rPort := some ⟨.transportError, kindCode kind⟩ }

/-- A row operation on the device: answered ok, RAM[2r] holds the wire byte of the row register; answered err, it
may hold anything. Every other byte reads as before, and no other field of the device changes. -/
def RowOnDevice (i : Instr) (s : State) (r : Fin 8) : Prop :=
  (∃ answer, s.reply = .answered answer) →
    ∃ (t : State) (ram : Memory),
      exec i s = .next t ∧ t.dev = { s.dev with ram := ram } ∧
      (s.reply = .answered .ok → ram.read (2 * r.val) = some (rotr8 t.fb[r])) ∧
      ∀ a, a ≠ 2 * r.val → ram.read a = s.dev.ram.read a

/-- A full-buffer operation on the device: answered ok, RAM[2k] holds the wire byte of row register k and the odd
addresses below 0x0E hold 0x00; answered err, RAM[0x00..0x0E] may hold anything. Every other byte reads
as before, and no other field of the device changes. -/
def FullOnDevice (i : Instr) (s : State) : Prop :=
  (∃ answer, s.reply = .answered answer) →
    ∃ (t : State) (ram : Memory),
      exec i s = .next t ∧ t.dev = { s.dev with ram := ram } ∧
      (s.reply = .answered .ok →
        (∀ k : Fin 8, ram.read (2 * k.val) = some (rotr8 t.fb[k])) ∧
        ∀ k, k < 7 → ram.read (2 * k + 1) = some 0x00) ∧
      ∀ a, 15 ≤ a → ram.read a = s.dev.ram.read a

/-- A command operation on the device: answered ok, the device is `d`; answered err, it satisfies `rest`. -/
def CommandOnDevice (i : Instr) (s : State) (d : Device) (rest : Device → Prop) : Prop :=
  (∃ answer, s.reply = .answered answer) →
    ∃ t : State,
      exec i s = .next t ∧ (s.reply = .answered .ok → t.dev = d) ∧ rest t.dev

/-! ## What has been sent -/

/-- The six message shapes of R31. -/
def SixShapes (m : Message) : Prop :=
  m = [0x21] ∨
  (∃ level : BitVec 4, m = [(0xE0 : Byte) ||| level.setWidth 8]) ∨
  (∃ mode : BitVec 2, m = [(0x81 : Byte) ||| (mode.setWidth 8 <<< 1)]) ∨
  m = [0x80] ∨
  (∃ (r : Fin 8) (w : Byte), m = [BitVec.ofNat 8 (2 * r.val), w]) ∨
  ∃ w : Buffer, m = fullBytes w

/-- The device `e` is the device `d` but for what a message of one of the six shapes covers (R43, R44): a command its
own fields, a row write its byte, a full write RAM[0x00..0x0E]. -/
def SameOutside (m : Message) (d e : Device) : Prop :=
  (m = [0x21] → e = { d with osc := e.osc }) ∧
  (∀ level : BitVec 4, m = [(0xE0 : Byte) ||| level.setWidth 8] → e = { d with dim := e.dim }) ∧
  (∀ mode : BitVec 2, m = [(0x81 : Byte) ||| (mode.setWidth 8 <<< 1)] →
    e = { d with dispOn := e.dispOn, dispBlink := e.dispBlink }) ∧
  (m = [0x80] → e = { d with dispOn := e.dispOn }) ∧
  (∀ (r : Fin 8) (w : Byte), m = [BitVec.ofNat 8 (2 * r.val), w] →
    e = { d with ram := e.ram } ∧ ∀ a, a ≠ 2 * r.val → e.ram.read a = d.ram.read a) ∧
  ∀ w : Buffer, m = fullBytes w →
    e = { d with ram := e.ram } ∧ ∀ a, 15 ≤ a → e.ram.read a = d.ram.read a

/-- The messages of INIT in order (R100). -/
def initMessages (brightness : Byte) : List Message :=
  [[0x21], [(0xE0 : Byte) ||| (brightness.extractLsb' 0 4).setWidth 8], List.replicate 16 0x00, [0x81]]

/-- The records from the last oscillator-on message on: those of the last INIT and of everything after it,
since only INIT sends that message (R31). Empty when none was sent. -/
def sinceInit : List TxRecord → List TxRecord
  | [] => []
  | r :: rest =>
    match sinceInit rest with
    | [] => if r.msg = [0x21] then r :: rest else []
    | later => later

/-- The last value a trace gives for something a message may carry. -/
def lastSent {α : Type} (carried : Message → Option α) (tx : List TxRecord) : Option α :=
  (tx.filterMap fun r => carried r.msg).getLast?

/-- The level of a brightness message (R60). -/
def brightnessOf : Message → Option (BitVec 4)
  | [b] => if b.extractLsb' 4 4 = 0xE then some (b.extractLsb' 0 4) else none
  | _ => none

/-- The byte of a display command: display on or off (R61). -/
def displayOf : Message → Option Byte
  | [b] => if b.extractLsb' 4 4 = 0x8 then some b else none
  | _ => none

/-- The wire byte a message carries for row `i`: a row write of that row, or any full write (R62, R64). -/
def rowOf (i : Fin 8) : Message → Option Byte
  | [a, w] => if a = BitVec.ofNat 8 (2 * i.val) then some w else none
  | m => if m.length = 16 then m[2 * i.val + 1]? else none

/-- The device holds and shows what the block holds (R45; the picture by R44, R93). -/
def MirrorsDevice (s : State) : Prop :=
  (∀ i : Fin 8, s.dev.ram.read (2 * i.val) = some (rotr8 s.fb[i])) ∧
  (∀ i : Fin 8, s.dev.pictureRow i = some s.fb[i]) ∧
  s.dev.dispOn = s.isOn ∧
  (s.isOn = true → s.dev.dispBlink = s.blink) ∧
  s.dev.osc = true ∧
  lastSent brightnessOf s.tx = some s.dev.dim

/-- The shadow state equals what was last sent (R20). -/
def ShadowMatches (s : State) : Prop :=
  (∀ m : BitVec 2, s.isOn = true ∧ s.blink = m →
    lastSent displayOf s.tx = some ((0x81 : Byte) ||| (m.setWidth 8 <<< 1))) ∧
  (s.isOn = false → lastSent displayOf s.tx = some 0x80) ∧
  ∀ i : Fin 8, lastSent (rowOf i) s.tx = some (rotr8 s.fb[i])

/-! ## Invariants -/

/-- A message stands on the transport port only while the block waits for its answer (R30, R192). -/
def PortQuiet (s : State) : Prop := s.busy = false → s.tPort = none

/-- The inductive form of R20 and R45: when the last INIT succeeded and no Send since its start was answered err,
an idle block, the trace and the device agree. -/
def ShadowInvariant (s : State) : Prop :=
  PortQuiet s ∧
  (s.inited = true → ∃ r ∈ s.tx, r.msg = [0x21]) ∧
  (s.inited = true → s.busy = false → (∀ r ∈ sinceInit s.tx, r.answer = .ok) →
    MirrorsDevice s ∧ ShadowMatches s)

end Sys2Proof
end

