-- ==== Sys2Proof/WellFormed.lean ====
section
/-! DEFINITION. Well-formed instructions: every operand in the legal range of the validation table
(30_encoding R57). An ill-formed request still has an encoding, is accepted, and is answered
INVALID_ARGUMENT (R152). The operands of wire messages and the INIT address fill their fields, so
nothing is checked there. -/

namespace Sys2Proof

def Instr.wellFormed : Instr → Bool
  | .init brightness _ => brightness.toNat ≤ 15
  | .on => true
  | .off => true
  | .setBrightness level => level.toNat ≤ 15
  | .setBlinking mode => mode.toNat ≤ 3
  | .set _ => true
  | .clear => true
  | .setRow row _ => row.toNat ≤ 7
  | .clearRow row => row.toNat ≤ 7
  | .setColumn column _ => column.toNat ≤ 7
  | .clearColumn column => column.toNat ≤ 7
  | .setPixel row column => row.toNat ≤ 7 && column.toNat ≤ 7
  | .clearPixel row column => row.toNat ≤ 7 && column.toNat ≤ 7
  | .oscOn => true
  | .dimming _ => true
  | .displayOn _ => true
  | .displayOff => true
  | .rowWrite _ _ => true
  | .fullWrite _ => true

end Sys2Proof
end

