-- ==== Sys2Proof/Certificates/Slice0/Obligations.lean ====
section
/-! DEFINITION. The statements for the provers. -/

open Sys2Proof Sys2Proof.Machine

/-! ## Encoding -/

/-- Words written out from the tables of R52 and R58 decode to the instructions they stand for. -/
def Obligations.TableWordsDecode : Prop :=
  decodeTableWord 24 0x010F70 = some (.init 15 0x70) ∧
  decodeTableWord 24 0x020000 = some .on ∧
  decodeTableWord 24 0x080281 = some (.setRow 2 0x81) ∧
  decodeTableWord 24 0x0C0305 = some (.setPixel 3 5) ∧
  decodeTableWord 24 0x0A02A5 = some (.setColumn 2 0xA5) ∧
  decodeTableWord 24 0x070001 = none ∧
  decodeTableWord 8 0x85 = some (.displayOn 2) ∧
  decodeTableWord 16 0x0602 = some (.rowWrite 3 0x02)

/-- Decoding what the encoder writes gives the instruction back, for every instruction and every operand. -/
def Obligations.DecodeInvertsEncode : Prop := ∀ i : Instr, decode (encode i) = .ok i

/-- Each request word has one meaning: a word that decodes is the encoding of what it decodes to, but for a
payload that only SET reads. -/
def Obligations.EncodeInvertsDecodeOfRequests : Prop :=
  ∀ (cw : CommandWord) (p : Payload) (i : Instr), decodeRequest cw p = .ok i →
    encode i = .request cw (if i = .set p then p else 0) ∧ i.isRequest = true

/-- R53: the decoder selects the one row of R52 with `CW & mask = match`, and none when no row matches. -/
def Obligations.DecodeSelectsTheMatchingRow : Prop :=
  ∀ (cw : CommandWord) (p : Payload),
    (∀ row ∈ opcodeMap, cw &&& row.mask = row.value ↔
      ∃ i, decodeRequest cw p = .ok i ∧ i.mnemonic = row.mnemonic) ∧
    ((∀ row ∈ opcodeMap, cw &&& row.mask ≠ row.value) ↔ ∃ e, decodeRequest cw p = .error e) ∧
    ∀ row ∈ opcodeMap, ∀ row' ∈ opcodeMap,
      cw &&& row.mask = row.value → cw &&& row'.mask = row'.value → row = row'

/-- R54: the words without a meaning are exactly these. -/
def Obligations.IllegalWordsAreExactlyThese : Prop :=
  ∀ (op a b : Byte) (p : Payload),
    (∃ e, decodeRequest (op ++ a ++ b) p = .error e) ↔
      (op = 0x00 ∨ 0x0E ≤ op.toNat) ∨
      ((op = 0x02 ∨ op = 0x03 ∨ op = 0x06 ∨ op = 0x07) ∧ (a ≠ 0 ∨ b ≠ 0)) ∨
      ((op = 0x04 ∨ op = 0x05 ∨ op = 0x09 ∨ op = 0x0B) ∧ b ≠ 0) ∨
      (op = 0x01 ∧ b.getLsbD 7 = true)

/-- R55: only SET reads the payload: for every other opcode two requests that differ in P decode alike, and the
operation runs alike but for REQ_P, which holds the payload it was given. -/
def Obligations.PayloadIsReadOnlyBySet : Prop :=
  ∀ (s : State) (op a b : Byte) (p q : Payload), op ≠ 0x06 →
    decodeRequest (op ++ a ++ b) p = decodeRequest (op ++ a ++ b) q ∧
    ∃ t : State, s.request (op ++ a ++ b) p = .next { t with reqP := p } ∧
      s.request (op ++ a ++ b) q = .next { t with reqP := q }

/-! ## Bit transforms -/

/-- R80: the bits of `rotr8`; and those of `rotl8` (R81), and the laws of both (R82). -/
def Obligations.RotatorLaws : Prop :=
  (∀ b : Byte, (rotr8 b).getLsbD 7 = b.getLsbD 0 ∧
    ∀ k : Fin 7, (rotr8 b).getLsbD k = b.getLsbD (k + 1)) ∧
  (∀ b : Byte, (rotl8 b).getLsbD 0 = b.getLsbD 7 ∧
    ∀ k : Fin 7, (rotl8 b).getLsbD (k + 1) = b.getLsbD k) ∧
  (∀ b : Byte, rotl8 (rotr8 b) = b ∧ rotr8 (rotl8 b) = b) ∧
  (∀ (b : Byte) (k : Fin 9), rotr8^[k] b = rotl8^[8 - k] b) ∧
  (∀ b : Byte, rotr8^[8] b = b) ∧
  (∀ b : Byte, (List.range 8).countP (rotr8 b).getLsbD = (List.range 8).countP b.getLsbD) ∧
  (∀ a b : Byte, rotr8 (a ||| b) = rotr8 a ||| rotr8 b ∧ rotr8 (a &&& b) = rotr8 a &&& rotr8 b ∧
    rotr8 (~~~a) = ~~~rotr8 a) ∧
  rotr8 (rotr8 0x01) ≠ 0x01

/-- R86, R87: clearing and setting a column, row by row. -/
def Obligations.ColumnFunctionsPixelByPixel : Prop :=
  ∀ (f : Buffer) (c : Fin 8) (b : Byte),
    (∀ k : Fin 8, (clrcol f c)[k] = f[k] &&& ~~~(0x80#8 >>> c.val)) ∧
    (∀ k : Fin 8, (setcol f c b)[k] =
      (f[k] &&& ~~~(0x80#8 >>> c.val)) ||| (((b >>> (7 - k.val)) &&& 1#8) <<< (7 - c.val)))

/-- R88: the laws of the column functions. -/
def Obligations.ColumnLaws : Prop :=
  ∀ (f : Buffer) (c c' : Fin 8) (b b' : Byte),
    getcol (setcol f c b) c = b ∧
    clrcol (setcol f c 0xFF) c = clrcol f c ∧
    getcol (clrcol f c) c = 0x00 ∧
    (c' ≠ c → getcol (setcol f c b) c' = getcol f c') ∧
    setcol (setcol f c b) c b' = setcol f c b' ∧
    setcol f c (getcol f c) = f ∧
    (c' ≠ c → setcol (setcol f c b) c' b' = setcol (setcol f c' b') c b)

/-- R85, R89: a column read row by row; transposition exchanges rows and columns, is its own inverse, and gives the
column write. -/
def Obligations.TransposeLaws : Prop :=
  ∀ (f : Buffer) (c k : Fin 8) (b : Byte),
    (getcol f c).getLsbD (7 - k.val) = (getpixel f k c).getLsbD 0 ∧
    (transpose f)[c] = getcol f c ∧
    getpixel (transpose f) c k = getpixel f k c ∧
    transpose (transpose f) = f ∧
    setcol f c b = transpose ((transpose f).set c b)

/-- R90: one pixel of a byte is set or cleared and nothing else changes. -/
def Obligations.PixelBitLaws : Prop :=
  ∀ (b : Byte) (c : Fin 8),
    setbit b c = b ||| colmask c ∧ clrbit b c = b &&& ~~~colmask c ∧
    (∀ k : Fin 8, (setbit b c).getLsbD k = (b.getLsbD k || (k.val == 7 - c.val))) ∧
    (∀ k : Fin 8, (clrbit b c).getLsbD k = (b.getLsbD k && !(k.val == 7 - c.val))) ∧
    setbit (setbit b c) c = setbit b c ∧ clrbit (clrbit b c) c = clrbit b c ∧
    clrbit (setbit b c) c = clrbit b c ∧ setbit (clrbit b c) c = setbit b c

/-- R91, R92: the layout of the two data messages; R93: each row read back from the full one. -/
def Obligations.DataMessageLayout : Prop :=
  ∀ f : Buffer,
    (pack16 f).length = 16 ∧
    (∀ i : Fin 8, (pack16 f)[2 * i.val]? = some 0x00 ∧
      (pack16 f)[2 * i.val + 1]? = some (rotr8 f[i]) ∧
      ((pack16 f)[2 * i.val + 1]?).map rotl8 = some f[i]) ∧
    ∀ r : Fin 8, rowmsg f r = [BitVec.ofNat 8 (2 * r.val), rotr8 f[r]]

/-! ## The step -/

/-- R9: when the host offers a word that decodes, to an idle block and without RESET, the step is the decoded
operation, run behind the acceptance. -/
def Obligations.StepRunsTheDecodedRequest : Prop :=
  ∀ (s : State) (cw : CommandWord) (p : Payload) (rest : List HostLines) (i : Instr),
    s.busy = false → s.tPort = none → s.inputs = HostLines.offer cw p :: rest →
    decodeRequest cw p = .ok i →
      step s = exec i
        { s with inputs := rest, busy := true, reqCw := cw, reqP := p, phase := 0, rPort := none }

/-- A wire message on the transport port of an idle block is executed by the device, and taken off the port. -/
def Obligations.StepRunsTheDecodedWireMessage : Prop :=
  ∀ (s : State) (m : Message) (i : Instr),
    s.busy = false → s.tPort = some m → decodeWire m = .ok i →
      step s = exec i { s with tPort := none }

/-- R153: an undecodable word is answered ILLEGAL_OPERATION; but for the acceptance nothing changes and nothing
is sent, whether the block is initialised or not. -/
def Obligations.IllegalWordIsRefused : Prop :=
  ∀ (s : State) (cw : CommandWord) (p : Payload) (rest : List HostLines) (e : Reject),
    s.busy = false → s.tPort = none → s.inputs = HostLines.offer cw p :: rest →
    decodeRequest cw p = .error e →
      step s = .next
        (answered { s with inputs := rest, reqCw := cw, reqP := p, phase := 0 } .illegalOperation 0)

/-- R185: Q_READY; a request offered while BUSY = 1 is not accepted, is not queued and has no effect. R156: an idle
block to which nothing is offered does nothing, in the step and in the tick. That a step of a BUSY block
changes nothing at all but the host's lines is the model's choice (R192 with logs 5 and 25). -/
def Obligations.BusyBlockAcceptsNothing : Prop :=
  ∀ (s : State) (l : HostLines) (rest : List HostLines),
    (s.qReady l = true ↔ s.busy = false ∧ l.reset = false) ∧
    (s.busy = true → s.inputs = l :: rest → l.reset = false →
      step s = .next { s with inputs := rest }) ∧
    (s.busy = false → s.tPort = none → s.inputs = l :: rest → l.reset = false → l.valid = false →
      step s = .next { s with inputs := rest }) ∧
    (s.busy = true ∨ s.tPort = none → s.inputs = [] → step s = .next s) ∧
    (s.busy = false → l.reset = false → l.valid = false → s.tick l = s)

/-- R192: a block that waits for an answer that never comes stays BUSY and gives no response, whatever requests
the host offers, until RESET. -/
def Obligations.WaitingBlockStaysBusy : Prop :=
  ∀ (s : State) (n : Nat), s.busy = true → (∀ l ∈ s.inputs, l.reset = false) →
    ∃ t, core.run n s = .next t ∧ t = { s with inputs := s.inputs.drop n }

/-- R24: what reset leaves. REQ_CW and REQ_P are unspecified there: no request depends on what they hold. -/
def Obligations.ResetValues : Prop :=
  ∀ t, (t = State.reset ∨ ∃ s : State, t = s.resetBlock) →
    (∀ i : Fin 8, t.fb[i] = 0x00) ∧ t.isOn = false ∧ t.blink = 0 ∧ t.addr = 0x70 ∧ t.inited = false ∧
    t.busy = false ∧ t.phase = 0 ∧ t.tx = [] ∧ t.rsp = [] ∧ t.tPort = none ∧
    ∀ (cw x : CommandWord) (p y : Payload),
      { t with reqCw := x, reqP := y }.request cw p = t.request cw p

/-- R180, R181: RESET: no request is accepted, the block is reset, nothing is sent and no response is given; the device
keeps what it has, but for what a Send in flight covers (log 14). Between two micro-steps RESET abandons the
operation: no later micro-step of it runs. -/
def Obligations.ResetStep : Prop :=
  ∀ (s : State) (l : HostLines), l.reset = true →
    s.qReady l = false ∧
    (∀ rest, (s.busy = true ∨ s.tPort = none) → s.inputs = l :: rest →
      ∃ t, step s = .next t ∧ t = { s with inputs := rest }.resetBlock ∧ t.inputs = rest ∧ t.rsp = [] ∧
        (s.tPort = none → t.dev = s.dev ∧ t.replies = s.replies) ∧
        ∀ m, s.tPort = some m → SameOutside m s.dev t.dev) ∧
    ∀ n, ∃ t, (s.tick l).ticks n = t ∧ t = s.resetBlock ∧ t.rsp = [] ∧ t.tx = [] ∧
      (s.tPort = none → t.dev = s.dev ∧ t.replies = s.replies) ∧
      ∀ m, s.tPort = some m → SameOutside m s.dev t.dev

/-- R157: illegal, then not initialised, then operand A, then operand B, then the transport; each of the first four
leaves everything but the acceptance as it was. -/
def Obligations.ErrorPriority : Prop :=
  ∀ (s : State) (cw : CommandWord) (p : Payload),
    (∀ e, decodeRequest cw p = .error e →
      s.request cw p = .next (answered (s.accept cw p) .illegalOperation 0)) ∧
    ∀ i, decodeRequest cw p = .ok i →
      (isInit i = false → s.inited = false →
        s.request cw p = .next (answered (s.accept cw p) .notInitialised 0)) ∧
      ((isInit i = true ∨ s.inited = true) →
        (∀ which, operandError i = some which →
          s.request cw p = .next (answered (s.accept cw p) .invalidArgument which)) ∧
        (operandError i = none →
          ∃ t, s.request cw p = .next t ∧
            (t.busy = true ∧ t.rsp = s.rsp ∨
              ∃ r, t.rsp = s.rsp ++ [r] ∧
                (r = ⟨.ok, 0⟩ ∨ ∃ kind, r = ⟨.transportError, kindCode kind⟩))))

/-- R57: an instruction is well-formed exactly when no operand error is listed for it. -/
def Obligations.WellFormedIsNoOperandError : Prop :=
  ∀ i : Instr, i.wellFormed = true ↔ operandError i = none

/-! ## INIT -/

/-- R100: INIT runs whether or not the block is initialised; with four answers ok it sends its four messages to
the new address and leaves a ready block, and the device as told. -/
def Obligations.InitBringsUpTheBlock : Prop :=
  ∀ (s : State) (brightness : Byte) (address : BusAddress) (p : Payload),
    decodeRequest (0x01#8 ++ brightness ++ (0#1 ++ address)) p = .ok (.init brightness address) ∧
    (∀ b : Byte, b.getLsbD 7 = true → ∃ e, decodeRequest (0x01#8 ++ brightness ++ b) p = .error e) ∧
    (15 < brightness.toNat →
      exec (.init brightness address) s = .next (answered s .invalidArgument 1)) ∧
    (brightness.toNat ≤ 15 → (∀ k, k < 4 → coming s k = .answered .ok) →
      ∃ (phase : BitVec 3) (ram : Memory),
        exec (.init brightness address) s = .next
          { taken s 4 with
            fb := Vector.replicate 8 0x00, isOn := true, blink := 0, addr := address, inited := true,
            busy := false, phase := phase,
            tx := s.tx ++ (initMessages brightness).map fun m => ⟨address, m, .ok⟩,
            rsp := s.rsp ++ [⟨.ok, 0⟩], rPort := some ⟨.ok, 0⟩,
            dev := { osc := true, dispOn := true, dispBlink := 0, dim := brightness.extractLsb' 0 4,
                     ram := ram } } ∧
        (∀ a, a < 15 → ram.read a = some 0x00) ∧
        ∀ a, 15 ≤ a → ram.read a = s.dev.ram.read a)

/-- R101: INIT cut short at its Send number `n` (0 to 3). On the device, what the Sends before it told is there, what
it covers may be anything, the rest is as before. -/
def Obligations.InitCutShort : Prop :=
  ∀ (s : State) (brightness : Byte) (address : BusAddress) (n : Fin 4) (kind : TransportKind),
    brightness.toNat ≤ 15 → (∀ k, k < n.val → coming s k = .answered .ok) →
    coming s n.val = .answered (.err kind) →
      ∃ (phase : BitVec 3) (d : Device) (draws : Nat),
        exec (.init brightness address) s = .next
          { taken s (n.val + 1) with
            fb := Vector.replicate 8 0x00, isOn := decide (n.val = 3), blink := 0, addr := address,
            inited := false, busy := false, phase := phase, draws := draws,
            tx := s.tx ++ ((initMessages brightness).take n.val).map (fun m => ⟨address, m, .ok⟩) ++
              ((initMessages brightness)[n.val]?.toList).map (fun m => ⟨address, m, .err kind⟩),
            rsp := s.rsp ++ [⟨.transportError, kindCode kind⟩],
            rPort := some ⟨.transportError, kindCode kind⟩,
            dev := d } ∧
        (0 < n.val → d.osc = true) ∧
        (n.val = 0 → d.dim = s.dev.dim) ∧ (1 < n.val → d.dim = brightness.extractLsb' 0 4) ∧
        (n.val < 3 → d.dispOn = s.dev.dispOn ∧ d.dispBlink = s.dev.dispBlink) ∧
        (n.val < 2 → d.ram = s.dev.ram) ∧ (n.val = 3 → ∀ a, a < 15 → d.ram.read a = some 0x00) ∧
        ∀ a, 15 ≤ a → d.ram.read a = s.dev.ram.read a

/-! ## Operations on the frame buffer -/

/-- R110. -/
def Obligations.SetColumnWritesTheColumn : Prop :=
  ∀ (s : State) (column byte : Byte) (p : Payload),
    decodeRequest (0x0A#8 ++ column ++ byte) p = .ok (.setColumn column byte) ∧
    (s.inited = false → exec (.setColumn column byte) s = .next (answered s .notInitialised 0)) ∧
    (s.inited = true → 7 < column.toNat →
      exec (.setColumn column byte) s = .next (answered s .invalidArgument 1)) ∧
    (s.inited = true → ∀ c : Fin 8, column.toNat = c.val →
      FullOperation (.setColumn column byte) s (Vector.ofFn fun k : Fin 8 =>
        (s.fb[k] &&& ~~~(0x80#8 >>> c.val)) ||| (((byte >>> (7 - k.val)) &&& 1#8) <<< (7 - c.val))))

/-- R111. -/
def Obligations.ClearColumnClearsTheColumn : Prop :=
  ∀ (s : State) (column : Byte) (p : Payload),
    decodeRequest (0x0B#8 ++ column ++ 0x00#8) p = .ok (.clearColumn column) ∧
    (∀ b : Byte, b ≠ 0x00 → ∃ e, decodeRequest (0x0B#8 ++ column ++ b) p = .error e) ∧
    (s.inited = false → exec (.clearColumn column) s = .next (answered s .notInitialised 0)) ∧
    (s.inited = true → 7 < column.toNat →
      exec (.clearColumn column) s = .next (answered s .invalidArgument 1)) ∧
    (s.inited = true → ∀ c : Fin 8, column.toNat = c.val →
      FullOperation (.clearColumn column) s
        (Vector.ofFn fun k : Fin 8 => s.fb[k] &&& ~~~(0x80#8 >>> c.val)))

/-- R120. -/
def Obligations.SetRowWritesTheRow : Prop :=
  ∀ (s : State) (row byte : Byte) (p : Payload),
    decodeRequest (0x08#8 ++ row ++ byte) p = .ok (.setRow row byte) ∧
    (s.inited = false → exec (.setRow row byte) s = .next (answered s .notInitialised 0)) ∧
    (s.inited = true → 7 < row.toNat →
      exec (.setRow row byte) s = .next (answered s .invalidArgument 1)) ∧
    (s.inited = true → ∀ r : Fin 8, row.toNat = r.val → RowOperation (.setRow row byte) s r byte)

/-- R121; with the same effect as SET_ROW row, 0x00. -/
def Obligations.ClearRowClearsTheRow : Prop :=
  ∀ (s : State) (row : Byte) (p : Payload),
    decodeRequest (0x09#8 ++ row ++ 0x00#8) p = .ok (.clearRow row) ∧
    (∀ b : Byte, b ≠ 0x00 → ∃ e, decodeRequest (0x09#8 ++ row ++ b) p = .error e) ∧
    (s.inited = false → exec (.clearRow row) s = .next (answered s .notInitialised 0)) ∧
    (s.inited = true → 7 < row.toNat →
      exec (.clearRow row) s = .next (answered s .invalidArgument 1)) ∧
    (s.inited = true → ∀ r : Fin 8, row.toNat = r.val → RowOperation (.clearRow row) s r 0x00) ∧
    exec (.clearRow row) s = exec (.setRow row 0x00) s

/-- R122. -/
def Obligations.SetPixelSetsThePixel : Prop :=
  ∀ (s : State) (row column : Byte) (p : Payload),
    decodeRequest (0x0C#8 ++ row ++ column) p = .ok (.setPixel row column) ∧
    (s.inited = false → exec (.setPixel row column) s = .next (answered s .notInitialised 0)) ∧
    (s.inited = true → 7 < row.toNat →
      exec (.setPixel row column) s = .next (answered s .invalidArgument 1)) ∧
    (s.inited = true → row.toNat ≤ 7 → 7 < column.toNat →
      exec (.setPixel row column) s = .next (answered s .invalidArgument 2)) ∧
    (s.inited = true → ∀ r c : Fin 8, row.toNat = r.val → column.toNat = c.val →
      RowOperation (.setPixel row column) s r (s.fb[r] ||| (0x80#8 >>> c.val)))

/-- R123. -/
def Obligations.ClearPixelClearsThePixel : Prop :=
  ∀ (s : State) (row column : Byte) (p : Payload),
    decodeRequest (0x0D#8 ++ row ++ column) p = .ok (.clearPixel row column) ∧
    (s.inited = false → exec (.clearPixel row column) s = .next (answered s .notInitialised 0)) ∧
    (s.inited = true → 7 < row.toNat →
      exec (.clearPixel row column) s = .next (answered s .invalidArgument 1)) ∧
    (s.inited = true → row.toNat ≤ 7 → 7 < column.toNat →
      exec (.clearPixel row column) s = .next (answered s .invalidArgument 2)) ∧
    (s.inited = true → ∀ r c : Fin 8, row.toNat = r.val → column.toNat = c.val →
      RowOperation (.clearPixel row column) s r (s.fb[r] &&& ~~~(0x80#8 >>> c.val)))

/-- R130. -/
def Obligations.SetLoadsTheBitmap : Prop :=
  ∀ (s : State) (p : Payload),
    decodeRequest 0x060000 p = .ok (.set p) ∧
    (∀ a b : Byte, a ≠ 0x00 ∨ b ≠ 0x00 → ∃ e, decodeRequest (0x06#8 ++ a ++ b) p = .error e) ∧
    (s.inited = false → exec (.set p) s = .next (answered s .notInitialised 0)) ∧
    (s.inited = true →
      FullOperation (.set p) s (Vector.ofFn fun k : Fin 8 => p.extractLsb' (8 * k.val) 8))

/-- R131. -/
def Obligations.ClearClearsTheBuffer : Prop :=
  ∀ (s : State) (p : Payload),
    decodeRequest 0x070000 p = .ok .clear ∧
    (∀ a b : Byte, a ≠ 0x00 ∨ b ≠ 0x00 → ∃ e, decodeRequest (0x07#8 ++ a ++ b) p = .error e) ∧
    (s.inited = false → exec .clear s = .next (answered s .notInitialised 0)) ∧
    (s.inited = true → FullOperation .clear s (Vector.replicate 8 0x00)) ∧
    pack16 (Vector.replicate 8 0x00) = List.replicate 16 0x00

/-- R67: CLEAR_ROW r is SET_ROW r, 0 and CLEAR is SET of eight zero bytes: same final state, same TX records,
same response; and CLEAR_COLUMN c has the effect of SET_COLUMN c, 0. -/
def Obligations.PseudoOperations : Prop :=
  ∀ (s : State) (row column : Byte),
    exec (.clearRow row) s = exec (.setRow row 0x00) s ∧ exec .clear s = exec (.set 0) s ∧
    exec (.clearColumn column) s = exec (.setColumn column 0x00) s

/-! ## Display control -/

/-- R140. -/
def Obligations.OnTurnsTheDisplayOn : Prop :=
  ∀ (s : State) (p : Payload),
    decodeRequest 0x020000 p = .ok .on ∧
    (∀ a b : Byte, a ≠ 0x00 ∨ b ≠ 0x00 → ∃ e, decodeRequest (0x02#8 ++ a ++ b) p = .error e) ∧
    (s.inited = false → exec .on s = .next (answered s .notInitialised 0)) ∧
    (s.inited = true →
      CommandOperation .on s true s.blink ((0x81 : Byte) ||| (s.blink.setWidth 8 <<< 1)))

/-- R141. -/
def Obligations.OffTurnsTheDisplayOff : Prop :=
  ∀ (s : State) (p : Payload),
    decodeRequest 0x030000 p = .ok .off ∧
    (∀ a b : Byte, a ≠ 0x00 ∨ b ≠ 0x00 → ∃ e, decodeRequest (0x03#8 ++ a ++ b) p = .error e) ∧
    (s.inited = false → exec .off s = .next (answered s .notInitialised 0)) ∧
    (s.inited = true →
      CommandOperation .off s false s.blink 0x80)

/-- R142. -/
def Obligations.SetBrightnessSendsTheLevel : Prop :=
  ∀ (s : State) (level : Byte) (p : Payload),
    decodeRequest (0x04#8 ++ level ++ 0x00#8) p = .ok (.setBrightness level) ∧
    (∀ b : Byte, b ≠ 0x00 → ∃ e, decodeRequest (0x04#8 ++ level ++ b) p = .error e) ∧
    (s.inited = false → exec (.setBrightness level) s = .next (answered s .notInitialised 0)) ∧
    (s.inited = true → 15 < level.toNat →
      exec (.setBrightness level) s = .next (answered s .invalidArgument 1)) ∧
    (s.inited = true → level.toNat ≤ 15 →
      CommandOperation (.setBrightness level) s s.isOn s.blink ((0xE0 : Byte) ||| level))

/-- R143: the mode is stored always; with IS_ON = 1 the body of ON follows, with IS_ON = 0 nothing is sent. -/
def Obligations.SetBlinkingStoresTheMode : Prop :=
  ∀ (s : State) (mode : Byte) (p : Payload),
    decodeRequest (0x05#8 ++ mode ++ 0x00#8) p = .ok (.setBlinking mode) ∧
    (∀ b : Byte, b ≠ 0x00 → ∃ e, decodeRequest (0x05#8 ++ mode ++ b) p = .error e) ∧
    (s.inited = false → exec (.setBlinking mode) s = .next (answered s .notInitialised 0)) ∧
    (s.inited = true → 3 < mode.toNat →
      exec (.setBlinking mode) s = .next (answered s .invalidArgument 1)) ∧
    (s.inited = true → ∀ m : BitVec 2, mode.toNat = m.toNat →
      (s.isOn = true →
        CommandOperation (.setBlinking mode) s true m ((0x81 : Byte) ||| (m.setWidth 8 <<< 1))) ∧
      (s.isOn = false →
        ∃ phase : BitVec 3,
          exec (.setBlinking mode) s = .next (answered { s with blink := m, phase := phase } .ok 0)))

/-- R144: the latch, from IS_ON = 0 and from IS_ON = 1. -/
def Obligations.BlinkModeIsLatched : Prop :=
  ∀ (s : State) (m : BitVec 2), s.inited = true → coming s 0 = .answered .ok →
    (s.isOn = false →
      ∃ t u, exec (.setBlinking (m.setWidth 8)) s = .next t ∧ t.tx = s.tx ∧ exec .on t = .next u ∧
        u.tx = s.tx ++ [⟨s.addr, [(0x81 : Byte) ||| (m.setWidth 8 <<< 1)], .ok⟩] ∧
        u.isOn = true ∧ u.blink = m ∧ u.rsp = s.rsp ++ [⟨.ok, 0⟩, ⟨.ok, 0⟩]) ∧
    (s.isOn = true → coming s 1 = .answered .ok →
      ∃ t u v, exec .off s = .next t ∧ t.blink = s.blink ∧
        exec (.setBlinking (m.setWidth 8)) t = .next u ∧ exec .on u = .next v ∧
        v.tx = s.tx ++ [⟨s.addr, [0x80], .ok⟩, ⟨s.addr, [(0x81 : Byte) ||| (m.setWidth 8 <<< 1)], .ok⟩] ∧
        v.isOn = true ∧ v.blink = m)

/-! ## The device -/

/-- R44, first four arms: the command messages, each executed by the device. (DISP_BLINK after display off: the
arm as written, log 11.) -/
def Obligations.DeviceExecutesCommands : Prop :=
  ∀ (s : State) (level : BitVec 4) (mode : BitVec 2),
    exec .oscOn s = .next { s with dev := { s.dev with osc := true } } ∧
    exec (.dimming level) s = .next { s with dev := { s.dev with dim := level } } ∧
    exec (.displayOn mode) s =
      .next { s with dev := { s.dev with dispOn := true, dispBlink := mode } } ∧
    exec .displayOff s = .next { s with dev := { s.dev with dispOn := false } }

/-- R44, fifth and sixth arm: the data messages. Every RAM byte outside those written reads as before. -/
def Obligations.DeviceExecutesWrites : Prop :=
  ∀ (s : State) (row : BitVec 3) (wire : Byte) (w : Buffer),
    (∃ ram, exec (.rowWrite row wire) s = .next { s with dev := { s.dev with ram := ram } } ∧
      ram.read (2 * row.toNat) = some wire ∧
      ∀ a, a ≠ 2 * row.toNat → ram.read a = s.dev.ram.read a) ∧
    (∃ ram, exec (.fullWrite w) s = .next { s with dev := { s.dev with ram := ram } } ∧
      (∀ k : Fin 8, ram.read (2 * k.val) = some w[k]) ∧
      (∀ k, k < 7 → ram.read (2 * k + 1) = some 0x00) ∧
      ∀ a, 15 ≤ a → ram.read a = s.dev.ram.read a)

/-- Row and pixel operations on the device (R43, R44). -/
def Obligations.RowOperationsOnTheDevice : Prop :=
  ∀ (s : State) (row column byte : Byte) (r c : Fin 8),
    s.inited = true → row.toNat = r.val → column.toNat = c.val →
      RowOnDevice (.setRow row byte) s r ∧ RowOnDevice (.clearRow row) s r ∧
      RowOnDevice (.setPixel row column) s r ∧ RowOnDevice (.clearPixel row column) s r

/-- Full-buffer and column operations on the device (R43, R44; where the bytes land is R44's derivation, log 19). -/
def Obligations.FullOperationsOnTheDevice : Prop :=
  ∀ (s : State) (p : Payload) (column byte : Byte) (c : Fin 8),
    s.inited = true → column.toNat = c.val →
      FullOnDevice (.set p) s ∧ FullOnDevice .clear s ∧
      FullOnDevice (.setColumn column byte) s ∧ FullOnDevice (.clearColumn column) s

/-- Display control on the device (R43, R44). That display off leaves DISP_BLINK is the model's choice, log 11. -/
def Obligations.CommandOperationsOnTheDevice : Prop :=
  ∀ (s : State) (level mode : Byte) (l : BitVec 4) (m : BitVec 2),
    s.inited = true → level.toNat = l.toNat → mode.toNat = m.toNat →
      (CommandOnDevice .on s { s.dev with dispOn := true, dispBlink := s.blink }
        fun d => d.osc = s.dev.osc ∧ d.dim = s.dev.dim ∧ d.ram = s.dev.ram) ∧
      (CommandOnDevice .off s { s.dev with dispOn := false }
        fun d => d.osc = s.dev.osc ∧ d.dim = s.dev.dim ∧ d.ram = s.dev.ram) ∧
      (CommandOnDevice (.setBrightness level) s { s.dev with dim := l }
        fun d => d.osc = s.dev.osc ∧ d.dispOn = s.dev.dispOn ∧ d.dispBlink = s.dev.dispBlink ∧
          d.ram = s.dev.ram) ∧
      (s.isOn = true →
        CommandOnDevice (.setBlinking mode) s { s.dev with dispOn := true, dispBlink := m }
          fun d => d.osc = s.dev.osc ∧ d.dim = s.dev.dim ∧ d.ram = s.dev.ram)

/-- The block has no read path from the device (R38): whatever the device holds, a request has the same effect on
everything but the device. -/
def Obligations.BlockNeverReadsTheDevice : Prop :=
  ∀ (i : Instr) (s : State) (d : Device), i.isRequest = true →
    ∃ t d', exec i s = .next t ∧ exec i { s with dev := d } = .next { t with dev := d' }

/-! ## Rules over all instructions -/

/-- R12: which frame-buffer registers an operation may change. -/
def Obligations.FrameBufferWriters : Prop :=
  ∀ (i : Instr) (s : State), ∃ t, exec i s = .next t ∧
    match i with
    | .init _ _ => True
    | .set _ => True
    | .clear => True
    | .setRow row _ => ∀ k : Fin 8, k.val ≠ row.toNat → t.fb[k] = s.fb[k]
    | .clearRow row => ∀ k : Fin 8, k.val ≠ row.toNat → t.fb[k] = s.fb[k]
    | .setPixel row _ => ∀ k : Fin 8, k.val ≠ row.toNat → t.fb[k] = s.fb[k]
    | .clearPixel row _ => ∀ k : Fin 8, k.val ≠ row.toNat → t.fb[k] = s.fb[k]
    | .setColumn column _ =>
      ∀ k c : Fin 8, c.val ≠ column.toNat → getpixel t.fb k c = getpixel s.fb k c
    | .clearColumn column =>
      ∀ k c : Fin 8, c.val ≠ column.toNat → getpixel t.fb k c = getpixel s.fb k c
    | _ => t.fb = s.fb

/-- Which instructions write the control registers: ADDR and INITED only INIT (R15, R17), BLINK only INIT and
SET_BLINKING (R14), IS_ON only INIT, ON and OFF (R13, SET_BLINKING rewrites it with its value); no
instruction writes REQ_CW or REQ_P, and none changes what the host will drive. -/
def Obligations.ControlRegisterWriters : Prop :=
  ∀ (i : Instr) (s : State), ∃ t, exec i s = .next t ∧
    (isInit i = false → t.addr = s.addr ∧ t.inited = s.inited) ∧
    (isInit i = false → (∀ mode, i ≠ .setBlinking mode) → t.blink = s.blink) ∧
    (isInit i = false → i ≠ .on → i ≠ .off → t.isOn = s.isOn) ∧
    t.reqCw = s.reqCw ∧ t.reqP = s.reqP ∧ t.inputs = s.inputs

/-- R150: every request ends in exactly one response, with a STATUS and INFO of the table, unless the transport
never answers, and then there is none yet. A wire message gives none. -/
def Obligations.OneResponsePerRequest : Prop :=
  ∀ (i : Instr) (s : State), ∃ t, exec i s = .next t ∧
    (i.isRequest = false → t.rsp = s.rsp) ∧
    (i.isRequest = true →
      (t.busy = true ∧ t.rsp = s.rsp ∧ t.tPort ≠ none) ∨
      (t.busy = false ∧ ∃ r, t.rsp = s.rsp ++ [r] ∧ t.rPort = some r ∧
        ((statusCode r.status = 0 ∧ r.info = 0) ∨
         (statusCode r.status = 1 ∧ (r.info = 1 ∨ r.info = 2 ∨ r.info = 3)) ∨
         (statusCode r.status = 2 ∧ (r.info = 1 ∨ r.info = 2)) ∨
         (statusCode r.status = 3 ∧ r.info = 0) ∨
         (statusCode r.status = 4 ∧ r.info = 0))))

/-- R31, R39: TX only grows, by at most four records an operation, each of one of the six shapes and to the bus
address the block then has; only the last can be answered err, and then the response says so. -/
def Obligations.SendsOfAnOperation : Prop :=
  ∀ (i : Instr) (s : State), ∃ t sent, exec i s = .next t ∧ t.tx = s.tx ++ sent ∧ sent.length ≤ 4 ∧
    (∀ r ∈ sent, SixShapes r.msg ∧ r.addr = t.addr) ∧
    (∀ r ∈ sent.dropLast, r.answer = .ok) ∧
    ∀ kind, (∃ r ∈ sent, r.answer = .err kind) ↔
      t.rsp = s.rsp ++ [⟨.transportError, kindCode kind⟩]

/-- Repeating a request is safe (R162). Run again, with whatever the transport then answers and whatever the device
then holds, an operation other than INIT leaves the block's registers as its first run left them. Any
operation, INIT too, that is answered ok in both runs leaves them and the device as after the first. -/
def Obligations.RepeatingIsSafe : Prop :=
  ∀ (i : Instr) (s : State) (replies : List Reply),
    (isInit i = false → ∀ d : Device,
      ∃ t u, exec i s = .next t ∧ exec i { t with replies := replies, dev := d } = .next u ∧
        u.fb = t.fb ∧ u.isOn = t.isOn ∧ u.blink = t.blink ∧ u.addr = t.addr ∧ u.inited = t.inited) ∧
    ∃ t u, exec i s = .next t ∧ exec i { t with replies := replies } = .next u ∧
      ((i.isRequest = true → t.busy = false ∧ u.busy = false) →
       (∀ r ∈ u.tx.drop s.tx.length, r.answer = .ok) →
        u.fb = t.fb ∧ u.isOn = t.isOn ∧ u.blink = t.blink ∧ u.addr = t.addr ∧ u.inited = t.inited ∧
        u.dev = t.dev)

/-- R192: an operation whose Send is never answered leaves the block BUSY with the message on its port, no response
given and that Send not recorded. First part: the first Send, of any operation; but for INIT it is the only
one, and the registers and the message are those of the operation answered ok. Second part: INIT at each of
its four Sends. That the device is as before while the Send hangs is the model's choice, log 5. -/
def Obligations.SilentTransportHangs : Prop :=
  (∀ (i : Instr) (s : State), i.isRequest = true → operandError i = none →
    (isInit i = true ∨ s.inited = true) → (∀ mode, i = .setBlinking mode → s.isOn = true) →
    s.reply = .silent →
      ∃ t m, exec i s = .next t ∧ t.busy = true ∧ t.tPort = some m ∧ SixShapes m ∧ t.rsp = s.rsp ∧
        t.tx = s.tx ∧ t.dev = s.dev ∧ t.transportPort.tValid = true ∧ t.transportPort.tAddr = t.addr ∧
        (isInit i = false →
          ∃ u, exec i { s with replies := .answered .ok :: s.replies } = .next u ∧
            u.tx = s.tx ++ [⟨t.addr, m, .ok⟩] ∧ u.fb = t.fb ∧ u.isOn = t.isOn ∧ u.blink = t.blink ∧
            u.addr = t.addr ∧ u.inited = t.inited)) ∧
  ∀ (s : State) (brightness : Byte) (address : BusAddress) (n : Fin 4),
    brightness.toNat ≤ 15 → (∀ k, k < n.val → coming s k = .answered .ok) → coming s n.val = .silent →
      ∃ (phase : BitVec 3) (d : Device),
        exec (.init brightness address) s = .next
          { taken s n.val with
            fb := Vector.replicate 8 0x00, isOn := decide (n.val = 3), blink := 0, addr := address,
            inited := false, busy := true, phase := phase,
            tPort := (initMessages brightness)[n.val]?,
            tx := s.tx ++ ((initMessages brightness).take n.val).map (fun m => ⟨address, m, .ok⟩),
            dev := d } ∧
        (n.val = 0 → d = s.dev) ∧ (0 < n.val → d.osc = true) ∧
        (n.val = 1 → d.dim = s.dev.dim) ∧ (1 < n.val → d.dim = brightness.extractLsb' 0 4) ∧
        d.dispOn = s.dev.dispOn ∧ d.dispBlink = s.dev.dispBlink ∧
        (n.val < 3 → d.ram = s.dev.ram) ∧ (n.val = 3 → ∀ a, a < 15 → d.ram.read a = some 0x00) ∧
        ∀ a, 15 ≤ a → d.ram.read a = s.dev.ram.read a

/-! ## Invariants of the step -/

/-- R31, R65: every message recorded in TX keeps having one of the six shapes, whatever the step. -/
def Obligations.StepKeepsMessageShapes : Prop :=
  ∀ s t : State, (∀ r ∈ s.tx, SixShapes r.msg) → step s = .next t → ∀ r ∈ t.tx, SixShapes r.msg

/-- The display RAM keeps its canonical form, exactly the sixteen addresses of R44, whatever the step. -/
def Obligations.StepKeepsRamCanonical : Prop :=
  ∀ s t : State, s.dev.ram.wf = true → step s = .next t → t.dev.ram.wf = true

/-- R20 and R45 in their inductive form: every step keeps the shadow invariant. -/
def Obligations.StepKeepsShadowInvariant : Prop :=
  ∀ s t : State, ShadowInvariant s → step s = .next t → ShadowInvariant t

/-- The invariants hold after reset. -/
def Obligations.ResetMeetsTheInvariants : Prop :=
  ShadowInvariant State.reset ∧ State.reset.dev.ram.wf = true ∧ ∀ r ∈ State.reset.tx, SixShapes r.msg

/-- R45, the mirror property: from reset, whatever the host drives and the transport answers, when every Send since
the last reset was answered ok and the block is initialised and idle, the device holds and shows what
the block holds. -/
def Obligations.MirrorProperty : Prop :=
  ∀ (inputs : List HostLines) (replies : List Reply) (n : Nat) (t : State),
    core.run n { State.reset with inputs := inputs, replies := replies } = .next t →
    (∀ r ∈ t.tx, r.answer = .ok) → t.inited = true → t.busy = false → MirrorsDevice t

/-- R20, the shadow invariant: the same of the shadow registers and what was last sent, when no Send since the
start of the last INIT, a successful one, was answered err. -/
def Obligations.ShadowStateIsWhatWasSent : Prop :=
  ∀ (inputs : List HostLines) (replies : List Reply) (n : Nat) (t : State),
    core.run n { State.reset with inputs := inputs, replies := replies } = .next t →
    (∀ r ∈ sinceInit t.tx, r.answer = .ok) → t.inited = true → t.busy = false → ShadowMatches t

/-! ## Micro-steps -/

/-- R9, R18: the block run one micro-step at a time, by REQ_CW, REQ_P and PHASE alone, ends where the whole cycle
of the step ends, for whatever the host drives. (Eight micro-steps are enough: log 10.) -/
def Obligations.MicroStepsRefineTheCycle : Prop :=
  ∀ (s : State) (l : HostLines) (n : Nat), s.busy = false → s.tPort = none → 8 ≤ n →
    s.hostTurn l = .next ((s.tick l).ticks n)

/-- R186: in the middle of a row operation the debug port shows the new row while nothing has been sent. -/
def Obligations.WriteComesBeforeSend : Prop :=
  ∀ (s : State) (p : Payload) (row byte : Byte) (r : Fin 8),
    s.busy = false → s.inited = true → row.toNat = r.val →
      ∃ t, (s.tick (HostLines.offer (0x08#8 ++ row ++ byte) p)).tick HostLines.quiet = t ∧
        t.debugPort = ⟨s.fb.set r byte, s.isOn, s.blink, s.addr, true, true⟩ ∧
        t.tx = s.tx ∧ t.dev = s.dev ∧ t.rsp = s.rsp

/-! ## Ports and written form -/

/-- R30: T_LEN is 1, 2 or 16, byte k of the message is in T_DATA[8k+7:8k] with zeros above, and the answer
signals carry the answer. -/
def Obligations.TransportPortSignals : Prop :=
  (∀ (addr : BusAddress) (m : Message), SixShapes m →
    (offered addr m).tValid = true ∧ (offered addr m).tAddr = addr ∧
    ((offered addr m).tLen = 1 ∨ (offered addr m).tLen = 2 ∨ (offered addr m).tLen = 16) ∧
    (offered addr m).tLen.toNat = m.length ∧
    ∀ k, k < 16 → (offered addr m).tData.extractLsb' (8 * k) 8 = m.getD k 0x00) ∧
  (∀ a : Answer, answerOfSignals (answerSignals a).1 (answerSignals a).2 = some a) ∧
  ∀ kind : BitVec 2, answerOfSignals false kind = some .ok

/-- R150: the numbers of STATUS and INFO; R150, R185: the response port carries them while a response is on it. (How
long it stays is log 15; what the port carries otherwise, log 27, is not stated.) -/
def Obligations.ResponseCodes : Prop :=
  statusCode .ok = 0 ∧ statusCode .transportError = 1 ∧ statusCode .invalidArgument = 2 ∧
  statusCode .illegalOperation = 3 ∧ statusCode .notInitialised = 4 ∧
  kindCode .busNotAcquired = 1 ∧ kindCode .addressNotAcknowledged = 2 ∧ kindCode .writeTimeout = 3 ∧
  exnResponse (.invalidArgument .operandA) = ⟨.invalidArgument, 1⟩ ∧
  exnResponse (.invalidArgument .operandB) = ⟨.invalidArgument, 2⟩ ∧
  exnResponse .illegalOperation = ⟨.illegalOperation, 0⟩ ∧
  exnResponse .notInitialised = ⟨.notInitialised, 0⟩ ∧
  (∀ kind, exnResponse (.transportError kind) = ⟨.transportError, kindCode kind⟩) ∧
  (∀ (s : State) (r : Response), s.rPort = some r →
    s.responsePort = ⟨true, statusCode r.status, r.info⟩) ∧
  (∀ s : State, s.responsePort.rValid = false ↔ s.rPort = none) ∧
  (∀ (s : State) (e : Exn), (s.raise e).responsePort =
    ⟨true, statusCode (exnResponse e).status, (exnResponse e).info⟩) ∧
  (∀ s : State, (runBody [] s).responsePort = ⟨true, 0, 0⟩) ∧
  (∀ (s : State) (cw : CommandWord) (p : Payload), (s.accept cw p).responsePort.rValid = false) ∧
  ∀ s : State, s.resetBlock.responsePort.rValid = false

/-- R66: the examples of the written form. -/
def Obligations.WrittenForm : Prop :=
  assemble "INIT 15, 0x70" = some (.request 0x010F70 0) ∧
  assemble "SET_PIXEL 3, 5" = some (.request 0x0C0305 0) ∧
  assemble "SET 0xFF,0,0xFF,0,0xFF,0,0xFF,0" = some (.request 0x060000 0x00FF00FF00FF00FF)
end

