-- ==== Sys2Proof/Laws/Decode.lean ====
section
/-! SUPPORT. Laws of the command word's fields, and which decoder gives which kind of instruction. -/

namespace Sys2Proof

/-- The three fields of a command word put together from three bytes. -/
theorem fields_of_append (op a b : Byte) :
    opField (op ++ a ++ b) = op ∧ aField (op ++ a ++ b) = a ∧ bField (op ++ a ++ b) = b := by
  refine ⟨?_, ?_, ?_⟩ <;>
    (apply BitVec.eq_of_getLsbD_eq
     intro i hi
     simp only [opField, aField, bField, BitVec.getLsbD_extractLsb', BitVec.getLsbD_append]
     interval_cases i <;> simp)

/-- A command word is its three fields. -/
theorem append_of_fields (cw : CommandWord) : cw = opField cw ++ aField cw ++ bField cw := by
  apply BitVec.eq_of_getLsbD_eq
  intro i hi
  simp only [opField, aField, bField, BitVec.getLsbD_extractLsb', BitVec.getLsbD_append]
  interval_cases i <;> simp

/-- The request decoder gives requests only. -/
theorem decodeRequest_isRequest {cw : CommandWord} {p : Payload} {i : Instr}
    (h : decodeRequest cw p = .ok i) : i.isRequest = true := by
  simp only [decodeRequest, requireZero] at h
  split at h <;> (try split at h) <;> simp at h <;> subst h <;> rfl

/-- The wire decoder gives wire messages only. -/
theorem decodeWire_isRequest {m : Message} {i : Instr} (h : decodeWire m = .ok i) :
    i.isRequest = false := by
  unfold decodeWire at h
  split at h <;> (try split_ifs at h) <;> simp at h <;> subst h <;> rfl

end Sys2Proof
end

