-- ==== Sys2Proof/Laws/Memory.lean ====
section
/-! SUPPORT. Laws of the display RAM: read after write, and every memory operation keeps the canonical form. -/

namespace Sys2Proof.Machine

@[simp] theorem Memory.read_write_same (m : Memory) (a : Nat) (v : Byte) :
    (m.write a v).read a = some v := by
  induction m with
  | nil => simp [Memory.write, Memory.read]
  | cons c rest ih =>
    obtain ⟨x, w⟩ := c
    by_cases hx : x = a
    · simp [Memory.write, Memory.read, hx]
    · by_cases hlt : a < x
      · simp [Memory.write, Memory.read, hx, hlt]
      · simpa [Memory.write, Memory.read, hx, hlt] using ih

theorem Memory.read_write_other (m : Memory) {a b : Nat} (v : Byte) (h : b ≠ a) :
    (m.write a v).read b = m.read b := by
  induction m with
  | nil => simp [Memory.write, Memory.read, h.symm]
  | cons c rest ih =>
    obtain ⟨x, w⟩ := c
    by_cases hx : x = a
    · subst hx
      simp [Memory.write, Memory.read, h.symm]
    · by_cases hlt : a < x
      · simp [Memory.write, Memory.read, hx, hlt, h.symm]
      · by_cases hb : x = b
        · subst hb
          simp [Memory.write, Memory.read, hx, hlt]
        · simpa [Memory.write, Memory.read, hx, hlt, hb] using ih

/-- Writing a byte that is there already changes nothing. -/
theorem Memory.write_write (m : Memory) (a : Nat) (v : Byte) : (m.write a v).write a v = m.write a v := by
  induction m with
  | nil => simp [Memory.write]
  | cons c rest ih =>
    obtain ⟨x, w⟩ := c
    by_cases hx : x = a
    · simp [Memory.write, hx]
    · by_cases hlt : a < x
      · simp [Memory.write, hx, hlt]
      · simp [Memory.write, hx, hlt, ih]

/-- A byte that is there already is still there after a write at a higher address. -/
theorem Memory.write_fixed (m : Memory) {a b : Nat} (v w : Byte) (hab : a < b) (h : m.write a v = m) :
    (m.write b w).write a v = m.write b w := by
  induction m with
  | nil => simp [Memory.write] at h
  | cons c rest ih =>
    obtain ⟨x, u⟩ := c
    by_cases hx : x = a
    · subst hx
      simp only [Memory.write, if_true, List.cons.injEq, and_true] at h
      have hxb : x ≠ b := by omega
      have hbx : ¬b < x := by omega
      simp [Memory.write, hxb, hbx, h]
    · by_cases hlt : a < x
      · have := congrArg List.length h
        simp [Memory.write, hx, hlt] at this
      · simp only [Memory.write, hx, hlt, if_false, List.cons.injEq, true_and] at h
        have hxb : x ≠ b := by omega
        have hbx : ¬b < x := by omega
        simp [Memory.write, hxb, hbx, hx, hlt, ih h]

theorem Memory.writeFrom_fixed (ds : List Byte) :
    ∀ (m : Memory) {a b : Nat} (v : Byte), a < b → m.write a v = m →
      (m.writeFrom b ds).write a v = m.writeFrom b ds := by
  induction ds with
  | nil => intro m a b v _ h; exact h
  | cons d rest ih => intro m a b v hab h; exact ih _ v (by omega) (Memory.write_fixed m v d hab h)

/-- Writing the same bytes twice is writing them once. -/
theorem Memory.writeFrom_twice (ds : List Byte) :
    ∀ (m : Memory) (a : Nat), (m.writeFrom a ds).writeFrom a ds = m.writeFrom a ds := by
  induction ds with
  | nil => intro m a; rfl
  | cons d rest ih =>
    intro m a
    simp only [Memory.writeFrom]
    rw [Memory.writeFrom_fixed rest _ d (Nat.lt_succ_self a) (Memory.write_write m a d)]
    exact ih _ _

/-- Every address below the first one written reads as before. -/
theorem Memory.read_writeFrom_below (ds : List Byte) :
    ∀ (m : Memory) (a b : Nat), b < a → (m.writeFrom a ds).read b = m.read b := by
  induction ds with
  | nil => intro m a b _; rfl
  | cons d rest ih =>
    intro m a b h
    rw [Memory.writeFrom, ih _ _ _ (by omega), Memory.read_write_other _ _ (by omega)]

/-- Every address past the last one written reads as before. -/
theorem Memory.read_writeFrom_above (ds : List Byte) :
    ∀ (m : Memory) (a b : Nat), a + ds.length ≤ b → (m.writeFrom a ds).read b = m.read b := by
  induction ds with
  | nil => intro m a b _; rfl
  | cons d rest ih =>
    intro m a b h
    simp only [List.length_cons] at h
    rw [Memory.writeFrom, ih _ _ _ (by omega), Memory.read_write_other _ _ (by omega)]

/-- The k-th byte written is read back at the k-th address. -/
theorem Memory.read_writeFrom_inside (ds : List Byte) :
    ∀ (m : Memory) (a k : Nat) (h : k < ds.length), (m.writeFrom a ds).read (a + k) = some ds[k] := by
  induction ds with
  | nil => intro m a k h; simp at h
  | cons d rest ih =>
    intro m a k h
    cases k with
    | zero => simp [Memory.writeFrom, Memory.read_writeFrom_below rest _ (a + 1) a (by omega)]
    | succ k =>
      have hk : k < rest.length := by simpa using h
      have := ih (m.write a d) (a + 1) k hk
      simpa [Memory.writeFrom, Nat.add_assoc, Nat.add_comm 1 k] using this

/-- In a canonical RAM every address of the RAM has a byte. -/
theorem Memory.read_of_wfFrom {a : Nat} (ha : a < ramSize) :
    ∀ (m : Memory) (low : Nat), low ≤ a → m.wfFrom low = true → ∃ v, m.read a = some v := by
  intro m
  induction m with
  | nil => intro low hl hw; simp only [Memory.wfFrom, beq_iff_eq] at hw; omega
  | cons c rest ih =>
    obtain ⟨x, w⟩ := c
    intro low hl hw
    simp only [Memory.wfFrom, Bool.and_eq_true, beq_iff_eq] at hw
    obtain ⟨rfl, hr⟩ := hw
    by_cases hxa : x = a
    · exact ⟨w, by simp [Memory.read, hxa]⟩
    · simpa [Memory.read, hxa] using ih (x + 1) (by omega) hr

theorem Memory.read_of_wf {m : Memory} {a : Nat} (ha : a < ramSize) (hw : m.wf = true) :
    ∃ v, m.read a = some v :=
  Memory.read_of_wfFrom ha m 0 (Nat.zero_le _) hw

theorem Memory.wfFrom_write (v : Byte) {a : Nat} (ha : a < ramSize) :
    ∀ (m : Memory) (low : Nat), low ≤ a → m.wfFrom low = true → (m.write a v).wfFrom low = true := by
  intro m
  induction m with
  | nil => intro low hl hw; simp only [Memory.wfFrom, beq_iff_eq] at hw; omega
  | cons c rest ih =>
    obtain ⟨x, w⟩ := c
    intro low hl hw
    simp only [Memory.wfFrom, Bool.and_eq_true, beq_iff_eq] at hw
    obtain ⟨rfl, hr⟩ := hw
    by_cases hxa : x = a
    · subst hxa
      simp [Memory.write, Memory.wfFrom, hr]
    · have hlt : ¬a < x := by omega
      simpa [Memory.write, hxa, hlt, Memory.wfFrom] using ih (x + 1) (by omega) hr

theorem Memory.wf_write {m : Memory} {a : Nat} (v : Byte) (ha : a < ramSize) (hw : m.wf = true) :
    (m.write a v).wf = true :=
  Memory.wfFrom_write v ha m 0 (Nat.zero_le _) hw

theorem Memory.wf_writeFrom (ds : List Byte) :
    ∀ {m : Memory} {a : Nat}, a + ds.length ≤ ramSize → m.wf = true → (m.writeFrom a ds).wf = true := by
  induction ds with
  | nil => intro m a _ hw; exact hw
  | cons d rest ih =>
    intro m a h hw
    simp only [List.length_cons] at h
    exact ih (by omega) (Memory.wf_write d (by omega) hw)

/-- The RAM at power-on, every byte a free value, is canonical. -/
theorem Device.powerOn_ram_wf : Device.powerOn.ram.wf = true := rfl

/-- Whatever message the device takes, its RAM keeps the canonical form. -/
theorem Device.receive_wf {d d' : Device} {m : Message} (h : d.receive m = some d')
    (hw : d.ram.wf = true) : d'.ram.wf = true := by
  unfold Device.receive at h
  split at h
  · split_ifs at h <;> cases h <;> exact hw
  · split_ifs at h with hc
    cases h
    exact Memory.wf_write _ hc.1 hw
  · split_ifs at h with hc
    cases h
    exact Memory.wf_writeFrom _ (by simp [hc.2, ramSize]) hw
  · cases h

/-- Whatever message fails, the RAM keeps the canonical form. -/
theorem Device.garble_wf {d : Device} (n : Nat) (m : Message) (hw : d.ram.wf = true) :
    (d.garble n m).ram.wf = true := by
  unfold Device.garble
  split
  · split_ifs <;> exact hw
  · split_ifs with hc
    · exact Memory.wf_write _ hc.1 hw
    · exact hw
  · split_ifs
    · exact Memory.wf_writeFrom _ (by simp [ramSize]) hw
    · exact hw
  · exact hw

end Sys2Proof.Machine
end

