-- ==== Sys2Proof/Laws/State.lean ====
section
/-! SUPPORT. What each update of the state leaves in each field: one lemma per field per update. -/

namespace Sys2Proof.Machine

/-! ### State.nextLines -/

@[simp] theorem State.nextLines_fb (s : State) : s.nextLines.fb = s.fb := rfl
@[simp] theorem State.nextLines_isOn (s : State) : s.nextLines.isOn = s.isOn := rfl
@[simp] theorem State.nextLines_blink (s : State) : s.nextLines.blink = s.blink := rfl
@[simp] theorem State.nextLines_addr (s : State) : s.nextLines.addr = s.addr := rfl
@[simp] theorem State.nextLines_inited (s : State) : s.nextLines.inited = s.inited := rfl
@[simp] theorem State.nextLines_busy (s : State) : s.nextLines.busy = s.busy := rfl
@[simp] theorem State.nextLines_reqCw (s : State) : s.nextLines.reqCw = s.reqCw := rfl
@[simp] theorem State.nextLines_reqP (s : State) : s.nextLines.reqP = s.reqP := rfl
@[simp] theorem State.nextLines_phase (s : State) : s.nextLines.phase = s.phase := rfl
@[simp] theorem State.nextLines_tPort (s : State) : s.nextLines.tPort = s.tPort := rfl
@[simp] theorem State.nextLines_rPort (s : State) : s.nextLines.rPort = s.rPort := rfl
@[simp] theorem State.nextLines_tx (s : State) : s.nextLines.tx = s.tx := rfl
@[simp] theorem State.nextLines_rsp (s : State) : s.nextLines.rsp = s.rsp := rfl
@[simp] theorem State.nextLines_dev (s : State) : s.nextLines.dev = s.dev := rfl
@[simp] theorem State.nextLines_inputs (s : State) : s.nextLines.inputs = s.inputs.tail := rfl
@[simp] theorem State.nextLines_replies (s : State) : s.nextLines.replies = s.replies := rfl
@[simp] theorem State.nextLines_draws (s : State) : s.nextLines.draws = s.draws := rfl
@[simp] theorem State.nextLines_reply (s : State) : s.nextLines.reply = s.reply := rfl

/-! ### State.takeReply -/

@[simp] theorem State.takeReply_fb (s : State) : s.takeReply.fb = s.fb := rfl
@[simp] theorem State.takeReply_isOn (s : State) : s.takeReply.isOn = s.isOn := rfl
@[simp] theorem State.takeReply_blink (s : State) : s.takeReply.blink = s.blink := rfl
@[simp] theorem State.takeReply_addr (s : State) : s.takeReply.addr = s.addr := rfl
@[simp] theorem State.takeReply_inited (s : State) : s.takeReply.inited = s.inited := rfl
@[simp] theorem State.takeReply_busy (s : State) : s.takeReply.busy = s.busy := rfl
@[simp] theorem State.takeReply_reqCw (s : State) : s.takeReply.reqCw = s.reqCw := rfl
@[simp] theorem State.takeReply_reqP (s : State) : s.takeReply.reqP = s.reqP := rfl
@[simp] theorem State.takeReply_phase (s : State) : s.takeReply.phase = s.phase := rfl
@[simp] theorem State.takeReply_tPort (s : State) : s.takeReply.tPort = s.tPort := rfl
@[simp] theorem State.takeReply_rPort (s : State) : s.takeReply.rPort = s.rPort := rfl
@[simp] theorem State.takeReply_tx (s : State) : s.takeReply.tx = s.tx := rfl
@[simp] theorem State.takeReply_rsp (s : State) : s.takeReply.rsp = s.rsp := rfl
@[simp] theorem State.takeReply_dev (s : State) : s.takeReply.dev = s.dev := rfl
@[simp] theorem State.takeReply_inputs (s : State) : s.takeReply.inputs = s.inputs := rfl
@[simp] theorem State.takeReply_replies (s : State) : s.takeReply.replies = s.replies.tail := rfl
@[simp] theorem State.takeReply_draws (s : State) :
    s.takeReply.draws = if s.replies.isEmpty then s.draws + 1 else s.draws := rfl

/-! ### State.respond -/

@[simp] theorem State.respond_fb (s : State) (r : Response) : (s.respond r).fb = s.fb := rfl
@[simp] theorem State.respond_isOn (s : State) (r : Response) : (s.respond r).isOn = s.isOn := rfl
@[simp] theorem State.respond_blink (s : State) (r : Response) : (s.respond r).blink = s.blink := rfl
@[simp] theorem State.respond_addr (s : State) (r : Response) : (s.respond r).addr = s.addr := rfl
@[simp] theorem State.respond_inited (s : State) (r : Response) : (s.respond r).inited = s.inited := rfl
@[simp] theorem State.respond_busy (s : State) (r : Response) : (s.respond r).busy = false := rfl
@[simp] theorem State.respond_reqCw (s : State) (r : Response) : (s.respond r).reqCw = s.reqCw := rfl
@[simp] theorem State.respond_reqP (s : State) (r : Response) : (s.respond r).reqP = s.reqP := rfl
@[simp] theorem State.respond_phase (s : State) (r : Response) : (s.respond r).phase = s.phase := rfl
@[simp] theorem State.respond_tPort (s : State) (r : Response) : (s.respond r).tPort = s.tPort := rfl
@[simp] theorem State.respond_rPort (s : State) (r : Response) : (s.respond r).rPort = some r := rfl
@[simp] theorem State.respond_tx (s : State) (r : Response) : (s.respond r).tx = s.tx := rfl
@[simp] theorem State.respond_rsp (s : State) (r : Response) : (s.respond r).rsp = s.rsp ++ [r] := rfl
@[simp] theorem State.respond_dev (s : State) (r : Response) : (s.respond r).dev = s.dev := rfl
@[simp] theorem State.respond_inputs (s : State) (r : Response) : (s.respond r).inputs = s.inputs := rfl
@[simp] theorem State.respond_replies (s : State) (r : Response) : (s.respond r).replies = s.replies := rfl
@[simp] theorem State.respond_draws (s : State) (r : Response) : (s.respond r).draws = s.draws := rfl
@[simp] theorem State.respond_reply (s : State) (r : Response) : (s.respond r).reply = s.reply := rfl

/-! ### State.raise -/

@[simp] theorem State.raise_fb (s : State) (e : Exn) : (s.raise e).fb = s.fb := rfl
@[simp] theorem State.raise_isOn (s : State) (e : Exn) : (s.raise e).isOn = s.isOn := rfl
@[simp] theorem State.raise_blink (s : State) (e : Exn) : (s.raise e).blink = s.blink := rfl
@[simp] theorem State.raise_addr (s : State) (e : Exn) : (s.raise e).addr = s.addr := rfl
@[simp] theorem State.raise_inited (s : State) (e : Exn) : (s.raise e).inited = s.inited := rfl
@[simp] theorem State.raise_busy (s : State) (e : Exn) : (s.raise e).busy = false := rfl
@[simp] theorem State.raise_reqCw (s : State) (e : Exn) : (s.raise e).reqCw = s.reqCw := rfl
@[simp] theorem State.raise_reqP (s : State) (e : Exn) : (s.raise e).reqP = s.reqP := rfl
@[simp] theorem State.raise_phase (s : State) (e : Exn) : (s.raise e).phase = s.phase := rfl
@[simp] theorem State.raise_tPort (s : State) (e : Exn) : (s.raise e).tPort = s.tPort := rfl
@[simp] theorem State.raise_rPort (s : State) (e : Exn) : (s.raise e).rPort = some (exnResponse e) := rfl
@[simp] theorem State.raise_tx (s : State) (e : Exn) : (s.raise e).tx = s.tx := rfl
@[simp] theorem State.raise_rsp (s : State) (e : Exn) : (s.raise e).rsp = s.rsp ++ [exnResponse e] := rfl
@[simp] theorem State.raise_dev (s : State) (e : Exn) : (s.raise e).dev = s.dev := rfl
@[simp] theorem State.raise_inputs (s : State) (e : Exn) : (s.raise e).inputs = s.inputs := rfl
@[simp] theorem State.raise_replies (s : State) (e : Exn) : (s.raise e).replies = s.replies := rfl
@[simp] theorem State.raise_draws (s : State) (e : Exn) : (s.raise e).draws = s.draws := rfl
@[simp] theorem State.raise_reply (s : State) (e : Exn) : (s.raise e).reply = s.reply := rfl

/-! ### State.record -/

@[simp] theorem State.record_fb (s : State) (m : Message) (a : Answer) : (s.record m a).fb = s.fb := rfl
@[simp] theorem State.record_isOn (s : State) (m : Message) (a : Answer) : (s.record m a).isOn = s.isOn := rfl
@[simp] theorem State.record_blink (s : State) (m : Message) (a : Answer) :
    (s.record m a).blink = s.blink := rfl
@[simp] theorem State.record_addr (s : State) (m : Message) (a : Answer) : (s.record m a).addr = s.addr := rfl
@[simp] theorem State.record_inited (s : State) (m : Message) (a : Answer) :
    (s.record m a).inited = s.inited := rfl
@[simp] theorem State.record_busy (s : State) (m : Message) (a : Answer) : (s.record m a).busy = s.busy := rfl
@[simp] theorem State.record_reqCw (s : State) (m : Message) (a : Answer) :
    (s.record m a).reqCw = s.reqCw := rfl
@[simp] theorem State.record_reqP (s : State) (m : Message) (a : Answer) : (s.record m a).reqP = s.reqP := rfl
@[simp] theorem State.record_phase (s : State) (m : Message) (a : Answer) :
    (s.record m a).phase = s.phase := rfl
@[simp] theorem State.record_tPort (s : State) (m : Message) (a : Answer) :
    (s.record m a).tPort = s.tPort := rfl
@[simp] theorem State.record_rPort (s : State) (m : Message) (a : Answer) :
    (s.record m a).rPort = s.rPort := rfl
@[simp] theorem State.record_tx (s : State) (m : Message) (a : Answer) :
    (s.record m a).tx = s.tx ++ [⟨s.addr, m, a⟩] := rfl
@[simp] theorem State.record_rsp (s : State) (m : Message) (a : Answer) : (s.record m a).rsp = s.rsp := rfl
@[simp] theorem State.record_dev (s : State) (m : Message) (a : Answer) : (s.record m a).dev = s.dev := rfl
@[simp] theorem State.record_inputs (s : State) (m : Message) (a : Answer) :
    (s.record m a).inputs = s.inputs := rfl
@[simp] theorem State.record_replies (s : State) (m : Message) (a : Answer) :
    (s.record m a).replies = s.replies := rfl
@[simp] theorem State.record_draws (s : State) (m : Message) (a : Answer) :
    (s.record m a).draws = s.draws := rfl
@[simp] theorem State.record_reply (s : State) (m : Message) (a : Answer) : (s.record m a).reply = s.reply := rfl

/-! ### State.deliver -/

@[simp] theorem State.deliver_fb (s : State) (m : Message) : (s.deliver m).fb = s.fb := rfl
@[simp] theorem State.deliver_isOn (s : State) (m : Message) : (s.deliver m).isOn = s.isOn := rfl
@[simp] theorem State.deliver_blink (s : State) (m : Message) : (s.deliver m).blink = s.blink := rfl
@[simp] theorem State.deliver_addr (s : State) (m : Message) : (s.deliver m).addr = s.addr := rfl
@[simp] theorem State.deliver_inited (s : State) (m : Message) : (s.deliver m).inited = s.inited := rfl
@[simp] theorem State.deliver_busy (s : State) (m : Message) : (s.deliver m).busy = s.busy := rfl
@[simp] theorem State.deliver_reqCw (s : State) (m : Message) : (s.deliver m).reqCw = s.reqCw := rfl
@[simp] theorem State.deliver_reqP (s : State) (m : Message) : (s.deliver m).reqP = s.reqP := rfl
@[simp] theorem State.deliver_phase (s : State) (m : Message) : (s.deliver m).phase = s.phase := rfl
@[simp] theorem State.deliver_tPort (s : State) (m : Message) : (s.deliver m).tPort = s.tPort := rfl
@[simp] theorem State.deliver_rPort (s : State) (m : Message) : (s.deliver m).rPort = s.rPort := rfl
@[simp] theorem State.deliver_tx (s : State) (m : Message) : (s.deliver m).tx = s.tx := rfl
@[simp] theorem State.deliver_rsp (s : State) (m : Message) : (s.deliver m).rsp = s.rsp := rfl
@[simp] theorem State.deliver_dev (s : State) (m : Message) :
    (s.deliver m).dev = (s.dev.receive m).getD s.dev := rfl
@[simp] theorem State.deliver_inputs (s : State) (m : Message) : (s.deliver m).inputs = s.inputs := rfl
@[simp] theorem State.deliver_replies (s : State) (m : Message) : (s.deliver m).replies = s.replies := rfl
@[simp] theorem State.deliver_draws (s : State) (m : Message) : (s.deliver m).draws = s.draws := rfl
@[simp] theorem State.deliver_reply (s : State) (m : Message) : (s.deliver m).reply = s.reply := rfl

/-! ### State.sendOk -/

@[simp] theorem State.sendOk_fb (s : State) (m : Message) : (s.sendOk m).fb = s.fb := rfl
@[simp] theorem State.sendOk_isOn (s : State) (m : Message) : (s.sendOk m).isOn = s.isOn := rfl
@[simp] theorem State.sendOk_blink (s : State) (m : Message) : (s.sendOk m).blink = s.blink := rfl
@[simp] theorem State.sendOk_addr (s : State) (m : Message) : (s.sendOk m).addr = s.addr := rfl
@[simp] theorem State.sendOk_inited (s : State) (m : Message) : (s.sendOk m).inited = s.inited := rfl
@[simp] theorem State.sendOk_busy (s : State) (m : Message) : (s.sendOk m).busy = s.busy := rfl
@[simp] theorem State.sendOk_reqCw (s : State) (m : Message) : (s.sendOk m).reqCw = s.reqCw := rfl
@[simp] theorem State.sendOk_reqP (s : State) (m : Message) : (s.sendOk m).reqP = s.reqP := rfl
@[simp] theorem State.sendOk_phase (s : State) (m : Message) : (s.sendOk m).phase = s.phase := rfl
@[simp] theorem State.sendOk_tPort (s : State) (m : Message) : (s.sendOk m).tPort = s.tPort := rfl
@[simp] theorem State.sendOk_rPort (s : State) (m : Message) : (s.sendOk m).rPort = s.rPort := rfl
@[simp] theorem State.sendOk_tx (s : State) (m : Message) :
    (s.sendOk m).tx = s.tx ++ [⟨s.addr, m, .ok⟩] := rfl
@[simp] theorem State.sendOk_rsp (s : State) (m : Message) : (s.sendOk m).rsp = s.rsp := rfl
@[simp] theorem State.sendOk_dev (s : State) (m : Message) :
    (s.sendOk m).dev = (s.dev.receive m).getD s.dev := rfl
@[simp] theorem State.sendOk_inputs (s : State) (m : Message) : (s.sendOk m).inputs = s.inputs := rfl
@[simp] theorem State.sendOk_replies (s : State) (m : Message) : (s.sendOk m).replies = s.replies.tail := rfl
@[simp] theorem State.sendOk_draws (s : State) (m : Message) :
    (s.sendOk m).draws = if s.replies.isEmpty then s.draws + 1 else s.draws := rfl
@[simp] theorem State.sendOk_reply (s : State) (m : Message) : (s.sendOk m).reply = s.takeReply.reply := rfl

/-! ### State.sendErr -/

@[simp] theorem State.sendErr_fb (s : State) (m : Message) (k : TransportKind) :
    (s.sendErr m k).fb = s.fb := rfl
@[simp] theorem State.sendErr_isOn (s : State) (m : Message) (k : TransportKind) :
    (s.sendErr m k).isOn = s.isOn := rfl
@[simp] theorem State.sendErr_blink (s : State) (m : Message) (k : TransportKind) :
    (s.sendErr m k).blink = s.blink := rfl
@[simp] theorem State.sendErr_addr (s : State) (m : Message) (k : TransportKind) :
    (s.sendErr m k).addr = s.addr := rfl
@[simp] theorem State.sendErr_inited (s : State) (m : Message) (k : TransportKind) :
    (s.sendErr m k).inited = s.inited := rfl
@[simp] theorem State.sendErr_busy (s : State) (m : Message) (k : TransportKind) :
    (s.sendErr m k).busy = s.busy := rfl
@[simp] theorem State.sendErr_reqCw (s : State) (m : Message) (k : TransportKind) :
    (s.sendErr m k).reqCw = s.reqCw := rfl
@[simp] theorem State.sendErr_reqP (s : State) (m : Message) (k : TransportKind) :
    (s.sendErr m k).reqP = s.reqP := rfl
@[simp] theorem State.sendErr_phase (s : State) (m : Message) (k : TransportKind) :
    (s.sendErr m k).phase = s.phase := rfl
@[simp] theorem State.sendErr_tPort (s : State) (m : Message) (k : TransportKind) :
    (s.sendErr m k).tPort = s.tPort := rfl
@[simp] theorem State.sendErr_rPort (s : State) (m : Message) (k : TransportKind) :
    (s.sendErr m k).rPort = s.rPort := rfl
@[simp] theorem State.sendErr_tx (s : State) (m : Message) (k : TransportKind) :
    (s.sendErr m k).tx = s.tx ++ [⟨s.addr, m, .err k⟩] := rfl
@[simp] theorem State.sendErr_rsp (s : State) (m : Message) (k : TransportKind) :
    (s.sendErr m k).rsp = s.rsp := rfl
@[simp] theorem State.sendErr_dev (s : State) (m : Message) (k : TransportKind) :
    (s.sendErr m k).dev = s.dev.garble s.takeReply.draws m := rfl
@[simp] theorem State.sendErr_inputs (s : State) (m : Message) (k : TransportKind) :
    (s.sendErr m k).inputs = s.inputs := rfl
@[simp] theorem State.sendErr_replies (s : State) (m : Message) (k : TransportKind) :
    (s.sendErr m k).replies = s.replies.tail := rfl
@[simp] theorem State.sendErr_draws (s : State) (m : Message) (k : TransportKind) :
    (s.sendErr m k).draws = s.takeReply.draws + 1 := rfl

/-! ### State.hang -/

@[simp] theorem State.hang_fb (s : State) (m : Message) : (s.hang m).fb = s.fb := rfl
@[simp] theorem State.hang_isOn (s : State) (m : Message) : (s.hang m).isOn = s.isOn := rfl
@[simp] theorem State.hang_blink (s : State) (m : Message) : (s.hang m).blink = s.blink := rfl
@[simp] theorem State.hang_addr (s : State) (m : Message) : (s.hang m).addr = s.addr := rfl
@[simp] theorem State.hang_inited (s : State) (m : Message) : (s.hang m).inited = s.inited := rfl
@[simp] theorem State.hang_busy (s : State) (m : Message) : (s.hang m).busy = true := rfl
@[simp] theorem State.hang_reqCw (s : State) (m : Message) : (s.hang m).reqCw = s.reqCw := rfl
@[simp] theorem State.hang_reqP (s : State) (m : Message) : (s.hang m).reqP = s.reqP := rfl
@[simp] theorem State.hang_phase (s : State) (m : Message) : (s.hang m).phase = s.phase := rfl
@[simp] theorem State.hang_tPort (s : State) (m : Message) : (s.hang m).tPort = some m := rfl
@[simp] theorem State.hang_rPort (s : State) (m : Message) : (s.hang m).rPort = s.rPort := rfl
@[simp] theorem State.hang_tx (s : State) (m : Message) : (s.hang m).tx = s.tx := rfl
@[simp] theorem State.hang_rsp (s : State) (m : Message) : (s.hang m).rsp = s.rsp := rfl
@[simp] theorem State.hang_dev (s : State) (m : Message) : (s.hang m).dev = s.dev := rfl
@[simp] theorem State.hang_inputs (s : State) (m : Message) : (s.hang m).inputs = s.inputs := rfl
@[simp] theorem State.hang_replies (s : State) (m : Message) : (s.hang m).replies = s.replies := rfl
@[simp] theorem State.hang_draws (s : State) (m : Message) : (s.hang m).draws = s.draws := rfl
@[simp] theorem State.hang_reply (s : State) (m : Message) : (s.hang m).reply = s.reply := rfl

/-! ### State.advance -/

@[simp] theorem State.advance_fb (s : State) : s.advance.fb = s.fb := rfl
@[simp] theorem State.advance_isOn (s : State) : s.advance.isOn = s.isOn := rfl
@[simp] theorem State.advance_blink (s : State) : s.advance.blink = s.blink := rfl
@[simp] theorem State.advance_addr (s : State) : s.advance.addr = s.addr := rfl
@[simp] theorem State.advance_inited (s : State) : s.advance.inited = s.inited := rfl
@[simp] theorem State.advance_busy (s : State) : s.advance.busy = s.busy := rfl
@[simp] theorem State.advance_reqCw (s : State) : s.advance.reqCw = s.reqCw := rfl
@[simp] theorem State.advance_reqP (s : State) : s.advance.reqP = s.reqP := rfl
@[simp] theorem State.advance_phase (s : State) : s.advance.phase = s.phase + 1 := rfl
@[simp] theorem State.advance_tPort (s : State) : s.advance.tPort = s.tPort := rfl
@[simp] theorem State.advance_rPort (s : State) : s.advance.rPort = s.rPort := rfl
@[simp] theorem State.advance_tx (s : State) : s.advance.tx = s.tx := rfl
@[simp] theorem State.advance_rsp (s : State) : s.advance.rsp = s.rsp := rfl
@[simp] theorem State.advance_dev (s : State) : s.advance.dev = s.dev := rfl
@[simp] theorem State.advance_inputs (s : State) : s.advance.inputs = s.inputs := rfl
@[simp] theorem State.advance_replies (s : State) : s.advance.replies = s.replies := rfl
@[simp] theorem State.advance_draws (s : State) : s.advance.draws = s.draws := rfl
@[simp] theorem State.advance_reply (s : State) : s.advance.reply = s.reply := rfl

/-! ### State.accept -/

@[simp] theorem State.accept_fb (s : State) (cw : CommandWord) (p : Payload) :
    (s.accept cw p).fb = s.fb := rfl
@[simp] theorem State.accept_isOn (s : State) (cw : CommandWord) (p : Payload) :
    (s.accept cw p).isOn = s.isOn := rfl
@[simp] theorem State.accept_blink (s : State) (cw : CommandWord) (p : Payload) :
    (s.accept cw p).blink = s.blink := rfl
@[simp] theorem State.accept_addr (s : State) (cw : CommandWord) (p : Payload) :
    (s.accept cw p).addr = s.addr := rfl
@[simp] theorem State.accept_inited (s : State) (cw : CommandWord) (p : Payload) :
    (s.accept cw p).inited = s.inited := rfl
@[simp] theorem State.accept_busy (s : State) (cw : CommandWord) (p : Payload) :
    (s.accept cw p).busy = true := rfl
@[simp] theorem State.accept_reqCw (s : State) (cw : CommandWord) (p : Payload) :
    (s.accept cw p).reqCw = cw := rfl
@[simp] theorem State.accept_reqP (s : State) (cw : CommandWord) (p : Payload) :
    (s.accept cw p).reqP = p := rfl
@[simp] theorem State.accept_phase (s : State) (cw : CommandWord) (p : Payload) :
    (s.accept cw p).phase = 0 := rfl
@[simp] theorem State.accept_tPort (s : State) (cw : CommandWord) (p : Payload) :
    (s.accept cw p).tPort = s.tPort := rfl
@[simp] theorem State.accept_rPort (s : State) (cw : CommandWord) (p : Payload) :
    (s.accept cw p).rPort = none := rfl
@[simp] theorem State.accept_tx (s : State) (cw : CommandWord) (p : Payload) :
    (s.accept cw p).tx = s.tx := rfl
@[simp] theorem State.accept_rsp (s : State) (cw : CommandWord) (p : Payload) :
    (s.accept cw p).rsp = s.rsp := rfl
@[simp] theorem State.accept_dev (s : State) (cw : CommandWord) (p : Payload) :
    (s.accept cw p).dev = s.dev := rfl
@[simp] theorem State.accept_inputs (s : State) (cw : CommandWord) (p : Payload) :
    (s.accept cw p).inputs = s.inputs := rfl
@[simp] theorem State.accept_replies (s : State) (cw : CommandWord) (p : Payload) :
    (s.accept cw p).replies = s.replies := rfl
@[simp] theorem State.accept_draws (s : State) (cw : CommandWord) (p : Payload) :
    (s.accept cw p).draws = s.draws := rfl
@[simp] theorem State.accept_reply (s : State) (cw : CommandWord) (p : Payload) : (s.accept cw p).reply = s.reply := rfl

/-! ### writeRow -/

@[simp] theorem writeRow_fb (s : State) (r : Fin 8) (v : Byte) : (writeRow r v s).fb = s.fb.set r v := rfl
@[simp] theorem writeRow_isOn (s : State) (r : Fin 8) (v : Byte) : (writeRow r v s).isOn = s.isOn := rfl
@[simp] theorem writeRow_blink (s : State) (r : Fin 8) (v : Byte) : (writeRow r v s).blink = s.blink := rfl
@[simp] theorem writeRow_addr (s : State) (r : Fin 8) (v : Byte) : (writeRow r v s).addr = s.addr := rfl
@[simp] theorem writeRow_inited (s : State) (r : Fin 8) (v : Byte) : (writeRow r v s).inited = s.inited := rfl
@[simp] theorem writeRow_busy (s : State) (r : Fin 8) (v : Byte) : (writeRow r v s).busy = s.busy := rfl
@[simp] theorem writeRow_reqCw (s : State) (r : Fin 8) (v : Byte) : (writeRow r v s).reqCw = s.reqCw := rfl
@[simp] theorem writeRow_reqP (s : State) (r : Fin 8) (v : Byte) : (writeRow r v s).reqP = s.reqP := rfl
@[simp] theorem writeRow_phase (s : State) (r : Fin 8) (v : Byte) : (writeRow r v s).phase = s.phase := rfl
@[simp] theorem writeRow_tPort (s : State) (r : Fin 8) (v : Byte) : (writeRow r v s).tPort = s.tPort := rfl
@[simp] theorem writeRow_rPort (s : State) (r : Fin 8) (v : Byte) : (writeRow r v s).rPort = s.rPort := rfl
@[simp] theorem writeRow_tx (s : State) (r : Fin 8) (v : Byte) : (writeRow r v s).tx = s.tx := rfl
@[simp] theorem writeRow_rsp (s : State) (r : Fin 8) (v : Byte) : (writeRow r v s).rsp = s.rsp := rfl
@[simp] theorem writeRow_dev (s : State) (r : Fin 8) (v : Byte) : (writeRow r v s).dev = s.dev := rfl
@[simp] theorem writeRow_inputs (s : State) (r : Fin 8) (v : Byte) : (writeRow r v s).inputs = s.inputs := rfl
@[simp] theorem writeRow_replies (s : State) (r : Fin 8) (v : Byte) :
    (writeRow r v s).replies = s.replies := rfl
@[simp] theorem writeRow_draws (s : State) (r : Fin 8) (v : Byte) : (writeRow r v s).draws = s.draws := rfl
@[simp] theorem writeRow_reply (s : State) (r : Fin 8) (v : Byte) : (writeRow r v s).reply = s.reply := rfl

/-! ### writeRows -/

@[simp] theorem writeRows_fb (s : State) (f : Buffer) : (writeRows f s).fb = f := rfl
@[simp] theorem writeRows_isOn (s : State) (f : Buffer) : (writeRows f s).isOn = s.isOn := rfl
@[simp] theorem writeRows_blink (s : State) (f : Buffer) : (writeRows f s).blink = s.blink := rfl
@[simp] theorem writeRows_addr (s : State) (f : Buffer) : (writeRows f s).addr = s.addr := rfl
@[simp] theorem writeRows_inited (s : State) (f : Buffer) : (writeRows f s).inited = s.inited := rfl
@[simp] theorem writeRows_busy (s : State) (f : Buffer) : (writeRows f s).busy = s.busy := rfl
@[simp] theorem writeRows_reqCw (s : State) (f : Buffer) : (writeRows f s).reqCw = s.reqCw := rfl
@[simp] theorem writeRows_reqP (s : State) (f : Buffer) : (writeRows f s).reqP = s.reqP := rfl
@[simp] theorem writeRows_phase (s : State) (f : Buffer) : (writeRows f s).phase = s.phase := rfl
@[simp] theorem writeRows_tPort (s : State) (f : Buffer) : (writeRows f s).tPort = s.tPort := rfl
@[simp] theorem writeRows_rPort (s : State) (f : Buffer) : (writeRows f s).rPort = s.rPort := rfl
@[simp] theorem writeRows_tx (s : State) (f : Buffer) : (writeRows f s).tx = s.tx := rfl
@[simp] theorem writeRows_rsp (s : State) (f : Buffer) : (writeRows f s).rsp = s.rsp := rfl
@[simp] theorem writeRows_dev (s : State) (f : Buffer) : (writeRows f s).dev = s.dev := rfl
@[simp] theorem writeRows_inputs (s : State) (f : Buffer) : (writeRows f s).inputs = s.inputs := rfl
@[simp] theorem writeRows_replies (s : State) (f : Buffer) : (writeRows f s).replies = s.replies := rfl
@[simp] theorem writeRows_draws (s : State) (f : Buffer) : (writeRows f s).draws = s.draws := rfl
@[simp] theorem writeRows_reply (s : State) (f : Buffer) : (writeRows f s).reply = s.reply := rfl

/-! ### writeIsOn -/

@[simp] theorem writeIsOn_fb (s : State) (v : Bool) : (writeIsOn v s).fb = s.fb := rfl
@[simp] theorem writeIsOn_isOn (s : State) (v : Bool) : (writeIsOn v s).isOn = v := rfl
@[simp] theorem writeIsOn_blink (s : State) (v : Bool) : (writeIsOn v s).blink = s.blink := rfl
@[simp] theorem writeIsOn_addr (s : State) (v : Bool) : (writeIsOn v s).addr = s.addr := rfl
@[simp] theorem writeIsOn_inited (s : State) (v : Bool) : (writeIsOn v s).inited = s.inited := rfl
@[simp] theorem writeIsOn_busy (s : State) (v : Bool) : (writeIsOn v s).busy = s.busy := rfl
@[simp] theorem writeIsOn_reqCw (s : State) (v : Bool) : (writeIsOn v s).reqCw = s.reqCw := rfl
@[simp] theorem writeIsOn_reqP (s : State) (v : Bool) : (writeIsOn v s).reqP = s.reqP := rfl
@[simp] theorem writeIsOn_phase (s : State) (v : Bool) : (writeIsOn v s).phase = s.phase := rfl
@[simp] theorem writeIsOn_tPort (s : State) (v : Bool) : (writeIsOn v s).tPort = s.tPort := rfl
@[simp] theorem writeIsOn_rPort (s : State) (v : Bool) : (writeIsOn v s).rPort = s.rPort := rfl
@[simp] theorem writeIsOn_tx (s : State) (v : Bool) : (writeIsOn v s).tx = s.tx := rfl
@[simp] theorem writeIsOn_rsp (s : State) (v : Bool) : (writeIsOn v s).rsp = s.rsp := rfl
@[simp] theorem writeIsOn_dev (s : State) (v : Bool) : (writeIsOn v s).dev = s.dev := rfl
@[simp] theorem writeIsOn_inputs (s : State) (v : Bool) : (writeIsOn v s).inputs = s.inputs := rfl
@[simp] theorem writeIsOn_replies (s : State) (v : Bool) : (writeIsOn v s).replies = s.replies := rfl
@[simp] theorem writeIsOn_draws (s : State) (v : Bool) : (writeIsOn v s).draws = s.draws := rfl
@[simp] theorem writeIsOn_reply (s : State) (v : Bool) : (writeIsOn v s).reply = s.reply := rfl

/-! ### writeBlink -/

@[simp] theorem writeBlink_fb (s : State) (v : BitVec 2) : (writeBlink v s).fb = s.fb := rfl
@[simp] theorem writeBlink_isOn (s : State) (v : BitVec 2) : (writeBlink v s).isOn = s.isOn := rfl
@[simp] theorem writeBlink_blink (s : State) (v : BitVec 2) : (writeBlink v s).blink = v := rfl
@[simp] theorem writeBlink_addr (s : State) (v : BitVec 2) : (writeBlink v s).addr = s.addr := rfl
@[simp] theorem writeBlink_inited (s : State) (v : BitVec 2) : (writeBlink v s).inited = s.inited := rfl
@[simp] theorem writeBlink_busy (s : State) (v : BitVec 2) : (writeBlink v s).busy = s.busy := rfl
@[simp] theorem writeBlink_reqCw (s : State) (v : BitVec 2) : (writeBlink v s).reqCw = s.reqCw := rfl
@[simp] theorem writeBlink_reqP (s : State) (v : BitVec 2) : (writeBlink v s).reqP = s.reqP := rfl
@[simp] theorem writeBlink_phase (s : State) (v : BitVec 2) : (writeBlink v s).phase = s.phase := rfl
@[simp] theorem writeBlink_tPort (s : State) (v : BitVec 2) : (writeBlink v s).tPort = s.tPort := rfl
@[simp] theorem writeBlink_rPort (s : State) (v : BitVec 2) : (writeBlink v s).rPort = s.rPort := rfl
@[simp] theorem writeBlink_tx (s : State) (v : BitVec 2) : (writeBlink v s).tx = s.tx := rfl
@[simp] theorem writeBlink_rsp (s : State) (v : BitVec 2) : (writeBlink v s).rsp = s.rsp := rfl
@[simp] theorem writeBlink_dev (s : State) (v : BitVec 2) : (writeBlink v s).dev = s.dev := rfl
@[simp] theorem writeBlink_inputs (s : State) (v : BitVec 2) : (writeBlink v s).inputs = s.inputs := rfl
@[simp] theorem writeBlink_replies (s : State) (v : BitVec 2) : (writeBlink v s).replies = s.replies := rfl
@[simp] theorem writeBlink_draws (s : State) (v : BitVec 2) : (writeBlink v s).draws = s.draws := rfl
@[simp] theorem writeBlink_reply (s : State) (v : BitVec 2) : (writeBlink v s).reply = s.reply := rfl

/-! ### writeInited -/

@[simp] theorem writeInited_fb (s : State) (v : Bool) : (writeInited v s).fb = s.fb := rfl
@[simp] theorem writeInited_isOn (s : State) (v : Bool) : (writeInited v s).isOn = s.isOn := rfl
@[simp] theorem writeInited_blink (s : State) (v : Bool) : (writeInited v s).blink = s.blink := rfl
@[simp] theorem writeInited_addr (s : State) (v : Bool) : (writeInited v s).addr = s.addr := rfl
@[simp] theorem writeInited_inited (s : State) (v : Bool) : (writeInited v s).inited = v := rfl
@[simp] theorem writeInited_busy (s : State) (v : Bool) : (writeInited v s).busy = s.busy := rfl
@[simp] theorem writeInited_reqCw (s : State) (v : Bool) : (writeInited v s).reqCw = s.reqCw := rfl
@[simp] theorem writeInited_reqP (s : State) (v : Bool) : (writeInited v s).reqP = s.reqP := rfl
@[simp] theorem writeInited_phase (s : State) (v : Bool) : (writeInited v s).phase = s.phase := rfl
@[simp] theorem writeInited_tPort (s : State) (v : Bool) : (writeInited v s).tPort = s.tPort := rfl
@[simp] theorem writeInited_rPort (s : State) (v : Bool) : (writeInited v s).rPort = s.rPort := rfl
@[simp] theorem writeInited_tx (s : State) (v : Bool) : (writeInited v s).tx = s.tx := rfl
@[simp] theorem writeInited_rsp (s : State) (v : Bool) : (writeInited v s).rsp = s.rsp := rfl
@[simp] theorem writeInited_dev (s : State) (v : Bool) : (writeInited v s).dev = s.dev := rfl
@[simp] theorem writeInited_inputs (s : State) (v : Bool) : (writeInited v s).inputs = s.inputs := rfl
@[simp] theorem writeInited_replies (s : State) (v : Bool) : (writeInited v s).replies = s.replies := rfl
@[simp] theorem writeInited_draws (s : State) (v : Bool) : (writeInited v s).draws = s.draws := rfl
@[simp] theorem writeInited_reply (s : State) (v : Bool) : (writeInited v s).reply = s.reply := rfl

/-! ### writeCreation -/

@[simp] theorem writeCreation_fb (s : State) (a : BusAddress) : (writeCreation a s).fb = clearRows := rfl
@[simp] theorem writeCreation_isOn (s : State) (a : BusAddress) : (writeCreation a s).isOn = false := rfl
@[simp] theorem writeCreation_blink (s : State) (a : BusAddress) : (writeCreation a s).blink = 0 := rfl
@[simp] theorem writeCreation_addr (s : State) (a : BusAddress) : (writeCreation a s).addr = a := rfl
@[simp] theorem writeCreation_inited (s : State) (a : BusAddress) : (writeCreation a s).inited = false := rfl
@[simp] theorem writeCreation_busy (s : State) (a : BusAddress) : (writeCreation a s).busy = s.busy := rfl
@[simp] theorem writeCreation_reqCw (s : State) (a : BusAddress) : (writeCreation a s).reqCw = s.reqCw := rfl
@[simp] theorem writeCreation_reqP (s : State) (a : BusAddress) : (writeCreation a s).reqP = s.reqP := rfl
@[simp] theorem writeCreation_phase (s : State) (a : BusAddress) : (writeCreation a s).phase = s.phase := rfl
@[simp] theorem writeCreation_tPort (s : State) (a : BusAddress) : (writeCreation a s).tPort = s.tPort := rfl
@[simp] theorem writeCreation_rPort (s : State) (a : BusAddress) : (writeCreation a s).rPort = s.rPort := rfl
@[simp] theorem writeCreation_tx (s : State) (a : BusAddress) : (writeCreation a s).tx = s.tx := rfl
@[simp] theorem writeCreation_rsp (s : State) (a : BusAddress) : (writeCreation a s).rsp = s.rsp := rfl
@[simp] theorem writeCreation_dev (s : State) (a : BusAddress) : (writeCreation a s).dev = s.dev := rfl
@[simp] theorem writeCreation_inputs (s : State) (a : BusAddress) :
    (writeCreation a s).inputs = s.inputs := rfl
@[simp] theorem writeCreation_replies (s : State) (a : BusAddress) :
    (writeCreation a s).replies = s.replies := rfl
@[simp] theorem writeCreation_draws (s : State) (a : BusAddress) : (writeCreation a s).draws = s.draws := rfl
@[simp] theorem writeCreation_reply (s : State) (a : BusAddress) : (writeCreation a s).reply = s.reply := rfl

end Sys2Proof.Machine
end

