-- ==== Sys2Proof/Laws/Ops.lean ====
section
/-! SUPPORT. What the shared operations do, said once: a body's micro-steps, a body of one write and one Send,
the checks, the device's receiver on each message the block sends. -/

namespace Sys2Proof.Machine

/-! ## Bodies -/

theorem runBody_nil (s : State) : runBody [] s = s.respond ⟨.ok, 0⟩ := rfl

theorem runBody_write (f : State → State) (rest : List Micro) (s : State) :
    runBody (.write f :: rest) s = runBody rest (f s).advance := rfl

theorem runBody_send_ok {m : State → Message} {rest : List Micro} {s : State}
    (h : s.reply = .answered .ok) :
    runBody (.send m :: rest) s = runBody rest (s.sendOk (m s)).advance := by
  simp [runBody, h]

theorem runBody_send_err {m : State → Message} {rest : List Micro} {s : State} {k : TransportKind}
    (h : s.reply = .answered (.err k)) :
    runBody (.send m :: rest) s = (s.sendErr (m s) k).raise (.transportError k) := by
  simp [runBody, h]

theorem runBody_send_silent {m : State → Message} {rest : List Micro} {s : State}
    (h : s.reply = .silent) : runBody (.send m :: rest) s = s.hang (m s) := by
  simp [runBody, h]

/-- Everything a Send as the last micro-step can do. -/
theorem runBody_last_send (m : State → Message) (s : State) :
    (s.reply = .answered .ok ∧
      runBody [.send m] s = (s.sendOk (m s)).advance.respond ⟨.ok, 0⟩) ∨
    (∃ k, s.reply = .answered (.err k) ∧
      runBody [.send m] s = (s.sendErr (m s) k).raise (.transportError k)) ∨
    (s.reply = .silent ∧ runBody [.send m] s = s.hang (m s)) := by
  rcases h : s.reply with a | _
  · cases a with
    | ok => exact .inl ⟨rfl, by rw [runBody_send_ok h, runBody_nil]⟩
    | err k => exact .inr (.inl ⟨k, rfl, runBody_send_err h⟩)
  · exact .inr (.inr ⟨rfl, runBody_send_silent h⟩)

/-- A property that every write of a body and every way a Send ends keep holds when the body has run. -/
theorem runBody_keeps {P : State → Prop}
    (hrespond : ∀ s r, P s → P (s.respond r))
    (hadvance : ∀ s, P s → P s.advance)
    (hok : ∀ s m, P s → P (s.sendOk m))
    (herr : ∀ s m k, P s → P (s.sendErr m k))
    (hhang : ∀ s m, P s → P (s.hang m)) :
    ∀ (body : List Micro), (∀ f, .write f ∈ body → ∀ s, P s → P (f s)) →
      ∀ s, P s → P (runBody body s) := by
  intro body
  induction body with
  | nil => intro _ s hs; exact hrespond _ _ hs
  | cons micro rest ih =>
    intro hw s hs
    have ih := ih fun f hf => hw f (List.mem_cons_of_mem _ hf)
    cases micro with
    | write f => exact ih _ (hadvance _ (hw f List.mem_cons_self _ hs))
    | send m =>
      rcases h : s.reply with a | _
      · cases a with
        | ok => rw [runBody_send_ok h]; exact ih _ (hadvance _ (hok _ _ hs))
        | err k => rw [runBody_send_err h]; exact hrespond _ _ (herr _ _ _ hs)
      · rw [runBody_send_silent h]; exact hhang _ _ hs

/-! ## Checks -/

theorem runChecked_none (body : List Micro) (s : State) : runChecked none body s = runBody body s := rfl

theorem runChecked_some (e : Exn) (body : List Micro) (s : State) :
    runChecked (some e) body s = s.raise e := rfl

theorem gateAndOperands_notInitialised {s : State} (h : s.inited = false) (bad : Option Which) :
    gateAndOperands s bad = some .notInitialised := by
  simp [gateAndOperands, h]

theorem gateAndOperands_inited {s : State} (h : s.inited = true) (bad : Option Which) :
    gateAndOperands s bad = bad.map .invalidArgument := by
  simp [gateAndOperands, h]

theorem checkA_legal {a : Byte} {n : Nat} (h : a.toNat ≤ n) : checkA a n = none := by
  simp [checkA, h]

theorem checkA_illegal {a : Byte} {n : Nat} (h : n < a.toNat) : checkA a n = some .operandA := by
  simp [checkA, Nat.not_le.mpr h]

/-- A legal index operand is the index it names. -/
theorem index_of_toNat {a : Byte} {i : Fin 8} (h : a.toNat = i.val) : index a = i := by
  apply Fin.ext
  simp [index, h, Nat.mod_eq_of_lt i.isLt]

/-! ## What the device does with the messages of the block (R44) -/

theorem Device.receive_osc (d : Device) : d.receive [oscByte] = some { d with osc := true } := rfl

theorem Device.receive_brightness (d : Device) (l : BitVec 4) :
    d.receive [brightnessByte l] = some { d with dim := l } := by
  have h : ∀ l : BitVec 4, ¬brightnessByte l = 0x21 ∧ (brightnessByte l).extractLsb' 4 4 = 0xE ∧
      (brightnessByte l).extractLsb' 0 4 = l := by decide
  obtain ⟨h1, h2, h3⟩ := h l
  simp only [Device.receive, h1, h2, h3, if_true, if_false]

theorem Device.receive_displayOn (d : Device) (m : BitVec 2) :
    d.receive [displayOnByte m] = some { d with dispOn := true, dispBlink := m } := by
  have h : ∀ m : BitVec 2, ¬displayOnByte m = 0x21 ∧ ¬(displayOnByte m).extractLsb' 4 4 = 0xE ∧
      (displayOnByte m).extractLsb' 3 5 = 0b10000 ∧ (displayOnByte m).getLsbD 0 = true ∧
      (displayOnByte m).extractLsb' 1 2 = m := by decide
  obtain ⟨h1, h2, h3, h4, h5⟩ := h m
  simp only [Device.receive, h1, h2, h3, h4, h5, if_true, if_false, and_self]

theorem Device.receive_displayOff (d : Device) :
    d.receive [displayOffByte] = some { d with dispOn := false } := rfl

theorem rowAddr_toNat (r : BitVec 3) : (rowAddr r).toNat = 2 * r.toNat := by
  have h : ∀ r : BitVec 3, (rowAddr r).toNat = 2 * r.toNat := by decide
  exact h r

theorem rowBits_toNat (r : Fin 8) : (rowBits r).toNat = r.val := by
  have h : ∀ r : Fin 8, (rowBits r).toNat = r.val := by decide
  exact h r

theorem Device.receive_row (d : Device) (r : BitVec 3) (w : Byte) :
    d.receive [rowAddr r, w] = some { d with ram := d.ram.write (2 * r.toNat) w } := by
  have hr := r.isLt
  have h1 : 2 * r.toNat < ramSize := by simp only [ramSize]; omega
  simp [Device.receive, rowAddr_toNat, h1]

theorem Device.receive_full (d : Device) (w : Buffer) :
    d.receive (fullBytes w) =
      some { d with ram := d.ram.writeFrom 0 (fullBytes w).tail } := by
  simp [Device.receive, fullBytes]

end Sys2Proof.Machine
end

