-- ==== Sys2Proof/Laws/PerInstr.lean ====
section
/-! SUPPORT. Statements made once per instruction, about the instruction as syntax. -/

namespace Sys2Proof.Laws

/-! ## Family FitsItsRow: the encoding of an instruction carries the fixed bits of its row -/

/-- A request's command word selects a row of the opcode map (R52) with the instruction's mnemonic; a wire
message has the length and the fixed bits of its row (R58 to R64). -/
def FitsItsRow.Statement (i : Instr) : Prop :=
  match encode i with
  | .request cw _ =>
    i.isRequest = true ∧
      ∃ row ∈ opcodeMap, row.mnemonic = i.mnemonic ∧ cw &&& row.mask = row.value
  | .wire m =>
    i.isRequest = false ∧
      ((i.mnemonic = "OSC_ON" ∧ m = [0x21]) ∨
       (i.mnemonic = "DIMMING" ∧ ∃ b, m = [b] ∧ b &&& 0xF0 = 0xE0) ∨
       (i.mnemonic = "DISPLAY_ON" ∧ ∃ b, m = [b] ∧ b &&& 0xF9 = 0x81) ∨
       (i.mnemonic = "DISPLAY_OFF" ∧ m = [0x80]) ∨
       (i.mnemonic = "ROW_WRITE" ∧ ∃ a d, m = [a, d] ∧ a &&& 0xF1 = 0x00) ∨
       (i.mnemonic = "FULL_WRITE" ∧ m.length = 16 ∧ ∀ k, k < 8 → m[2 * k]? = some 0x00))

/-- Masking a command word masks its three fields. -/
theorem commandWord_and (op a b op' a' b' : Byte) :
    commandWord op a b &&& commandWord op' a' b' = commandWord (op &&& op') (a &&& a') (b &&& b') := by
  have h1 := BitVec.and_append (x₁ := op) (x₂ := op') (y₁ := a) (y₂ := a')
  have h2 := BitVec.and_append (x₁ := op ++ a) (x₂ := op' ++ a') (y₁ := b) (y₂ := b')
  rw [h1] at h2
  exact h2

/-- A command word whose fields carry the fixed bits of a row selects it. -/
theorem selects {mask value : CommandWord} (op a b op' a' b' : Byte)
    (hm : mask = commandWord op' a' b') (hv : value = commandWord (op &&& op') (a &&& a') (b &&& b')) :
    commandWord op a b &&& mask = value := by
  rw [hm, hv, commandWord_and]

theorem FitsItsRow.init (brightness : Byte) (address : BusAddress) :
    FitsItsRow.Statement (.init brightness address) := by
  refine ⟨rfl, ⟨"INIT", 0xFF0080, 0x010000⟩, by simp [opcodeMap], rfl, ?_⟩
  have hb : ∀ x : BusAddress, x.setWidth 8 &&& (0x80 : Byte) = 0 := by decide
  exact selects _ _ _ 0xFF 0x00 0x80 rfl (by rw [hb]; simp [commandWord])

theorem FitsItsRow.on : FitsItsRow.Statement .on :=
  ⟨rfl, ⟨"ON", 0xFFFFFF, 0x020000⟩, by simp [opcodeMap], rfl, by decide⟩

theorem FitsItsRow.off : FitsItsRow.Statement .off :=
  ⟨rfl, ⟨"OFF", 0xFFFFFF, 0x030000⟩, by simp [opcodeMap], rfl, by decide⟩

theorem FitsItsRow.setBrightness (level : Byte) : FitsItsRow.Statement (.setBrightness level) :=
  ⟨rfl, ⟨"SET_BRIGHTNESS", 0xFF00FF, 0x040000⟩, by simp [opcodeMap], rfl,
    selects _ _ _ 0xFF 0x00 0xFF rfl (by simp [commandWord])⟩

theorem FitsItsRow.setBlinking (mode : Byte) : FitsItsRow.Statement (.setBlinking mode) :=
  ⟨rfl, ⟨"SET_BLINKING", 0xFF00FF, 0x050000⟩, by simp [opcodeMap], rfl,
    selects _ _ _ 0xFF 0x00 0xFF rfl (by simp [commandWord])⟩

theorem FitsItsRow.set (bitmap : Payload) : FitsItsRow.Statement (.set bitmap) :=
  ⟨rfl, ⟨"SET", 0xFFFFFF, 0x060000⟩, by simp [opcodeMap], rfl, by decide⟩

theorem FitsItsRow.clear : FitsItsRow.Statement .clear :=
  ⟨rfl, ⟨"CLEAR", 0xFFFFFF, 0x070000⟩, by simp [opcodeMap], rfl, by decide⟩

theorem FitsItsRow.setRow (row byte : Byte) : FitsItsRow.Statement (.setRow row byte) :=
  ⟨rfl, ⟨"SET_ROW", 0xFF0000, 0x080000⟩, by simp [opcodeMap], rfl,
    selects _ _ _ 0xFF 0x00 0x00 rfl (by simp [commandWord])⟩

theorem FitsItsRow.clearRow (row : Byte) : FitsItsRow.Statement (.clearRow row) :=
  ⟨rfl, ⟨"CLEAR_ROW", 0xFF00FF, 0x090000⟩, by simp [opcodeMap], rfl,
    selects _ _ _ 0xFF 0x00 0xFF rfl (by simp [commandWord])⟩

theorem FitsItsRow.setColumn (column byte : Byte) : FitsItsRow.Statement (.setColumn column byte) :=
  ⟨rfl, ⟨"SET_COLUMN", 0xFF0000, 0x0A0000⟩, by simp [opcodeMap], rfl,
    selects _ _ _ 0xFF 0x00 0x00 rfl (by simp [commandWord])⟩

theorem FitsItsRow.clearColumn (column : Byte) : FitsItsRow.Statement (.clearColumn column) :=
  ⟨rfl, ⟨"CLEAR_COLUMN", 0xFF00FF, 0x0B0000⟩, by simp [opcodeMap], rfl,
    selects _ _ _ 0xFF 0x00 0xFF rfl (by simp [commandWord])⟩

theorem FitsItsRow.setPixel (row column : Byte) : FitsItsRow.Statement (.setPixel row column) :=
  ⟨rfl, ⟨"SET_PIXEL", 0xFF0000, 0x0C0000⟩, by simp [opcodeMap], rfl,
    selects _ _ _ 0xFF 0x00 0x00 rfl (by simp [commandWord])⟩

theorem FitsItsRow.clearPixel (row column : Byte) : FitsItsRow.Statement (.clearPixel row column) :=
  ⟨rfl, ⟨"CLEAR_PIXEL", 0xFF0000, 0x0D0000⟩, by simp [opcodeMap], rfl,
    selects _ _ _ 0xFF 0x00 0x00 rfl (by simp [commandWord])⟩

theorem FitsItsRow.oscOn : FitsItsRow.Statement .oscOn := ⟨rfl, .inl ⟨rfl, rfl⟩⟩

theorem FitsItsRow.dimming (level : BitVec 4) : FitsItsRow.Statement (.dimming level) := by
  have h : ∀ l : BitVec 4, brightnessByte l &&& 0xF0 = 0xE0 := by decide
  exact ⟨rfl, .inr (.inl ⟨rfl, _, rfl, h level⟩)⟩

theorem FitsItsRow.displayOn (mode : BitVec 2) : FitsItsRow.Statement (.displayOn mode) := by
  have h : ∀ m : BitVec 2, displayOnByte m &&& 0xF9 = 0x81 := by decide
  exact ⟨rfl, .inr (.inr (.inl ⟨rfl, _, rfl, h mode⟩))⟩

theorem FitsItsRow.displayOff : FitsItsRow.Statement .displayOff :=
  ⟨rfl, .inr (.inr (.inr (.inl ⟨rfl, rfl⟩)))⟩

theorem FitsItsRow.rowWrite (row : BitVec 3) (wire : Byte) : FitsItsRow.Statement (.rowWrite row wire) := by
  have h : ∀ r : BitVec 3, rowAddr r &&& 0xF1 = 0x00 := by decide
  exact ⟨rfl, .inr (.inr (.inr (.inr (.inl ⟨rfl, _, _, rfl, h row⟩))))⟩

theorem FitsItsRow.fullWrite (wires : Buffer) : FitsItsRow.Statement (.fullWrite wires) := by
  refine ⟨rfl, .inr (.inr (.inr (.inr (.inr ⟨rfl, rfl, ?_⟩))))⟩
  intro k hk
  interval_cases k <;> rfl

end Sys2Proof.Laws
end

