-- ==== Sys2Proof/Laws/Step.lean ====
section
/-! SUPPORT. What a request's meaning and a step can do, said once. -/

namespace Sys2Proof.Machine

/-- Every request is its check and then its body. -/
theorem exec_request {i : Instr} (h : i.isRequest = true) (s : State) :
    exec i s = .next (runChecked (checkOf i s) (bodyOf i s) s) := by
  cases i <;> first | rfl | simp [Instr.isRequest] at h

/-- Every wire message is executed by the device, which alone changes. -/
theorem exec_wire {i : Instr} (h : i.isRequest = false) (s : State) :
    ∃ m, exec i s = .next (s.deliver m) := by
  cases i <;> simp [Instr.isRequest] at h <;> exact ⟨_, rfl⟩

/-- A property of state writes that each of the named writes has, every write of every body has. -/
theorem bodyOf_writes (i : Instr) (s₀ : State) {P : (State → State) → Prop}
    (hrow : ∀ r (g : State → Byte), P (fun s => writeRow r (g s) s))
    (hrows : ∀ g : State → Buffer, P (fun s => writeRows (g s) s))
    (hison : ∀ v, P (writeIsOn v)) (hblink : ∀ v, P (writeBlink v))
    (hinited : ∀ v, P (writeInited v)) (hcreation : ∀ a, P (writeCreation a)) :
    ∀ f, .write f ∈ bodyOf i s₀ → P f := by
  have hrow' : ∀ r v, P (writeRow r v) := fun r v => hrow r fun _ => v
  have hrows' : ∀ f, P (writeRows f) := fun f => hrows fun _ => f
  intro f hf
  cases i <;>
    simp [bodyOf, initBody, onBody, offBody, setBrightnessBody, setBlinkingBody, setBody, clearBody,
      setRowBody, clearRowBody, setColumnBody, clearColumnBody, setPixelBody, clearPixelBody, sendOsc,
      sendBrightness, sendFull, sendDisplayOn, sendDisplayOff, sendRow] at hf
  case setBlinking mode =>
    cases hs : s₀.isOn <;> simp [hs] at hf
    · subst hf; exact hblink _
    · obtain rfl | rfl := hf
      · exact hblink _
      · exact hison _
  case init => obtain rfl | rfl | rfl | rfl := hf <;> first | apply hrows' | apply hison | apply hinited | apply hcreation
  all_goals (subst hf; first | apply hrow' | apply hrows' | apply hison | apply hrow | apply hrows)

/-- Whatever the device takes or fails to take, its RAM keeps the canonical form. -/
theorem State.deliver_wf {s : State} (m : Message) (h : s.dev.ram.wf = true) :
    (s.deliver m).dev.ram.wf = true := by
  show ((s.dev.receive m).getD s.dev).ram.wf = true
  cases hr : s.dev.receive m with
  | none => exact h
  | some d => exact Device.receive_wf hr h

/-- The device's turn takes the message off the port and changes the device alone. -/
theorem State.deviceTurn_next {s t : State} {m : Message} (h : s.deviceTurn m = .next t) :
    ∃ d, t = { s with tPort := none, dev := d } ∧ (s.dev.ram.wf = true → d.ram.wf = true) := by
  unfold State.deviceTurn at h
  split at h
  · rename_i i hi
    obtain ⟨m', hm⟩ := exec_wire (decodeWire_isRequest hi) { s with tPort := none }
    rw [hm] at h
    cases h
    exact ⟨_, rfl, State.deliver_wf (s := s) m'⟩
  · split at h
    · rename_i d hd
      cases h
      exact ⟨d, rfl, Device.receive_wf hd⟩
    · cases h

/-- Everything a step can do: the device's turn; RESET; nothing but reading the host's lines; a request that is
refused with an error; a request whose body runs. -/
theorem step_next {s t : State} (h : step s = .next t) :
    (s.busy = false ∧ (∃ m, s.tPort = some m) ∧
      ∃ d, t = { s with tPort := none, dev := d } ∧ (s.dev.ram.wf = true → d.ram.wf = true)) ∨
    t = s.nextLines.resetBlock ∨
    t = s.nextLines ∨
    (s.busy = false ∧ s.tPort = none ∧ ∃ cw p,
      (∃ e, t = (s.nextLines.accept cw p).raise e) ∨
      ∃ i, decodeRequest cw p = .ok i ∧ checkOf i (s.nextLines.accept cw p) = none ∧
        t = runBody (bodyOf i (s.nextLines.accept cw p)) (s.nextLines.accept cw p)) := by
  simp only [step, State.turn] at h
  split at h
  · rename_i m hb hm
    obtain ⟨d, h1, h2⟩ := State.deviceTurn_next h
    exact .inl ⟨hb, ⟨m, hm⟩, d, h1, h2⟩
  · rename_i hn
    right
    simp only [State.hostTurn] at h
    split_ifs at h with h1 h2 h3
    · cases h; exact .inl rfl
    · cases h; exact .inr (.inl rfl)
    · have hb : s.busy = false := by simpa [State.nextLines] using h2
      have ht : s.tPort = none := Option.eq_none_iff_forall_not_mem.mpr fun m hm => hn m hb hm
      refine .inr (.inr ⟨hb, ht, s.lines.cw, s.lines.p, ?_⟩)
      unfold State.request at h
      split at h
      · rename_i i hi
        rw [exec_request (decodeRequest_isRequest hi)] at h
        cases hc : checkOf i (s.nextLines.accept s.lines.cw s.lines.p) with
        | some e => rw [hc] at h; cases h; exact .inl ⟨e, rfl⟩
        | none => rw [hc] at h; cases h; exact .inr ⟨i, hi, hc, rfl⟩
      · cases h; exact .inl ⟨_, rfl⟩
    · cases h; exact .inr (.inl rfl)

/-- A failed message leaves the device as it was but for what the message covers (R43). -/
theorem Device.garble_sameOutside (d : Device) (n : Nat) (m : Message) :
    SameOutside m d (d.garble n m) := by
  refine ⟨?_, ?_, ?_, ?_, ?_, ?_⟩
  · rintro rfl; rfl
  · rintro level rfl
    have h : ∀ l : BitVec 4, ¬brightnessByte l = 0x21 ∧ (brightnessByte l).extractLsb' 4 4 = 0xE := by
      decide
    obtain ⟨h1, h2⟩ := h level
    show d.garble n [brightnessByte level] =
      { d with dim := (d.garble n [brightnessByte level]).dim }
    simp only [Device.garble, h1, h2, if_true, if_false]
  · rintro mode rfl
    have h : ∀ m : BitVec 2, ¬displayOnByte m = 0x21 ∧ ¬(displayOnByte m).extractLsb' 4 4 = 0xE ∧
        (displayOnByte m).extractLsb' 3 5 = 0b10000 ∧ (displayOnByte m).getLsbD 0 = true := by decide
    obtain ⟨h1, h2, h3, h4⟩ := h mode
    show d.garble n [displayOnByte mode] =
      { d with dispOn := (d.garble n [displayOnByte mode]).dispOn,
               dispBlink := (d.garble n [displayOnByte mode]).dispBlink }
    simp only [Device.garble, h1, h2, h3, h4, if_true, if_false, and_self]
  · rintro rfl; rfl
  · rintro r w rfl
    have h1 : ∀ r : Fin 8, (BitVec.ofNat 8 (2 * r.val)).toNat = 2 * r.val := by decide
    have h2 : 2 * r.val < ramSize := by simp only [ramSize]; omega
    have h : d.garble n [BitVec.ofNat 8 (2 * r.val), w] =
        { d with ram := d.ram.write (2 * r.val) (Config.freeByte n (2 * r.val)) } := by
      simp [Device.garble, h1 r, h2]
    rw [h]
    exact ⟨rfl, fun a ha => Memory.read_write_other _ _ ha⟩
  · rintro w rfl
    have h : d.garble n (fullBytes w) =
        { d with ram := d.ram.writeFrom 0 ((List.range 15).map (Config.freeByte n)) } := by
      simp [Device.garble, fullBytes]
    rw [h]
    exact ⟨rfl, fun a ha => Memory.read_writeFrom_above _ _ _ _ (by simpa using ha)⟩

/-- RESET keeps the RAM's canonical form. -/
theorem State.resetBlock_wf {s : State} (h : s.dev.ram.wf = true) : s.resetBlock.dev.ram.wf = true := by
  unfold State.resetBlock
  split
  · exact h
  · exact Device.garble_wf _ _ h

end Sys2Proof.Machine
end

