-- ==== Sys2Proof/Tests/Slice0.lean ====
section
/-! SUPPORT. Tests: well-formedness, decoding, one step per instruction (expected values from spec/95_test_vectors),
and a witness for the hypotheses of every obligation that has any. -/

namespace Sys2Proof.Tests

open Sys2Proof.Machine

/-! ## Well-formedness: an ill-formed term for each check (R57) -/

theorem test_wf_init : (Instr.init 16 0x70).wellFormed = false := by decide
theorem test_wf_setBrightness : (Instr.setBrightness 16).wellFormed = false := by decide
theorem test_wf_setBlinking : (Instr.setBlinking 4).wellFormed = false := by decide
theorem test_wf_setRow : (Instr.setRow 8 0xFF).wellFormed = false := by decide
theorem test_wf_clearRow : (Instr.clearRow 8).wellFormed = false := by decide
theorem test_wf_setColumn : (Instr.setColumn 8 0xFF).wellFormed = false := by decide
theorem test_wf_clearColumn : (Instr.clearColumn 8).wellFormed = false := by decide
theorem test_wf_setPixel :
    (Instr.setPixel 8 0).wellFormed = false ∧ (Instr.setPixel 0 8).wellFormed = false := by decide
theorem test_wf_clearPixel :
    (Instr.clearPixel 8 0).wellFormed = false ∧ (Instr.clearPixel 7 8).wellFormed = false := by decide
theorem test_wf_largest :
    (Instr.init 15 0x7F).wellFormed = true ∧ (Instr.setBrightness 15).wellFormed = true ∧
    (Instr.setBlinking 3).wellFormed = true ∧ (Instr.setPixel 7 7).wellFormed = true ∧
    (Instr.setRow 7 0xFF).wellFormed = true ∧ (Instr.setColumn 7 0xFF).wellFormed = true := by decide

/-! ## Decoding: words written out from R52 (requests: OP, A, B) and R58 (wire messages, first byte highest) -/

theorem test_decode_init : decodeTableWord 24 0b00000001_00001111_01110000 = some (.init 15 0x70) := by decide
theorem test_decode_on : decodeTableWord 24 0b00000010_00000000_00000000 = some .on := by decide
theorem test_decode_off : decodeTableWord 24 0b00000011_00000000_00000000 = some .off := by decide
theorem test_decode_setBrightness :
    decodeTableWord 24 0b00000100_00000111_00000000 = some (.setBrightness 7) := by decide
theorem test_decode_setBlinking :
    decodeTableWord 24 0b00000101_00000010_00000000 = some (.setBlinking 2) := by decide
theorem test_decode_set : decodeTableWord 24 0b00000110_00000000_00000000 = some (.set 0) := by decide
theorem test_decode_clear : decodeTableWord 24 0b00000111_00000000_00000000 = some .clear := by decide
theorem test_decode_setRow :
    decodeTableWord 24 0b00001000_00000010_10000001 = some (.setRow 2 0x81) := by decide
theorem test_decode_clearRow :
    decodeTableWord 24 0b00001001_00000101_00000000 = some (.clearRow 5) := by decide
theorem test_decode_setColumn :
    decodeTableWord 24 0b00001010_00000111_00001111 = some (.setColumn 7 0x0F) := by decide
theorem test_decode_clearColumn :
    decodeTableWord 24 0b00001011_00000011_00000000 = some (.clearColumn 3) := by decide
theorem test_decode_setPixel :
    decodeTableWord 24 0b00001100_00000011_00000101 = some (.setPixel 3 5) := by decide
theorem test_decode_clearPixel :
    decodeTableWord 24 0b00001101_00000000_00000111 = some (.clearPixel 0 7) := by decide
theorem test_decode_oscOn : decodeTableWord 8 0b00100001 = some .oscOn := by decide
theorem test_decode_dimming : decodeTableWord 8 0b11101111 = some (.dimming 15) := by decide
theorem test_decode_displayOn : decodeTableWord 8 0b10000101 = some (.displayOn 2) := by decide
theorem test_decode_displayOff : decodeTableWord 8 0b10000000 = some .displayOff := by decide
theorem test_decode_rowWrite : decodeTableWord 16 0b00001110_01111000 = some (.rowWrite 7 0x78) := by decide
theorem test_decode_fullWrite :
    decodeTableWord 128 0x0009001A002B003C004D005E006F0078 =
      some (.fullWrite #v[0x09, 0x1A, 0x2B, 0x3C, 0x4D, 0x5E, 0x6F, 0x78]) := by decide

/-- 95_test_vectors B.7 and rows of B.2 to B.6: words without a meaning. -/
theorem test_decode_illegal :
    [0x000000, 0x0E0000, 0xFF0000, 0x0100F0, 0x010FF0, 0x020100, 0x060100, 0x070001, 0x090001, 0x0B0101].map
      (decodeTableWord 24) = List.replicate 10 none := by decide

/-- R65: 0x20, 0xF0, 0x89 and 0x82 are no commands; 0x01 and 0x10 are no row addresses. -/
theorem test_decode_illegal_wire :
    [0x20, 0xF0, 0x89, 0x82].map (decodeTableWord 8) = List.replicate 4 none ∧
    [0x0100, 0x1000].map (decodeTableWord 16) = List.replicate 2 none := by decide

/-! ## One step per instruction -/

def ok : Reply := .answered .ok
def err (kind : TransportKind) : Reply := .answered (.err kind)

/-- The block of the test vectors' conventions: ready, dark, ADDR = 0x70, display on. -/
def ready (replies : List Reply) : State :=
  { State.reset with inited := true, isOn := true, replies := replies }

/-- `s` while the host offers a request. -/
def offering (s : State) (cw : CommandWord) (p : Payload) : State :=
  { s with inputs := [HostLines.offer cw p] }

/-- Something of the next state. -/
def after {α : Type} (o : Host.Outcome State Fault Refusal) (f : State → α) : Option α :=
  match o with
  | .next t => some (f t)
  | .fault _ => none
  | .refused _ => none

/-- What the vectors list: frame buffer, messages sent, responses. -/
def seen (t : State) : Buffer × List TxRecord × List Response := (t.fb, t.tx, t.rsp)

/-- The shadow registers and the messages. -/
def shadow (t : State) : Bool × BitVec 2 × List TxRecord × List Response := (t.isOn, t.blink, t.tx, t.rsp)

/-- B.2, first row. -/
theorem test_init :
    after (step (offering { State.reset with replies := [ok, ok, ok, ok] } 0x010F70 0))
      (fun t => (seen t, t.isOn, t.blink, t.addr, t.inited)) =
    some ((Vector.replicate 8 0,
      [⟨0x70, [0x21], .ok⟩, ⟨0x70, [0xEF], .ok⟩, ⟨0x70, List.replicate 16 0, .ok⟩, ⟨0x70, [0x81], .ok⟩],
      [⟨.ok, 0⟩]), true, 0, 0x70, true) := by decide

/-- B.2, err(2) on the fourth Send. -/
theorem test_init_last_send_fails :
    after (step (offering { State.reset with replies := [ok, ok, ok, err .addressNotAcknowledged] } 0x010F70 0))
      (fun t => (t.rsp, t.isOn, t.inited, t.tx.length)) =
    some ([⟨.transportError, 2⟩], true, false, 4) := by decide

/-- B.6: BLINK = 2 gives 85. -/
theorem test_on :
    after (step (offering { ready [ok] with isOn := false, blink := 2 } 0x020000 0)) shadow =
    some (true, 2, [⟨0x70, [0x85], .ok⟩], [⟨.ok, 0⟩]) := by decide

/-- B.6: err(2) keeps IS_ON = 1. -/
theorem test_on_fails :
    after (step (offering { ready [err .addressNotAcknowledged] with isOn := false } 0x020000 0)) shadow =
    some (true, 0, [⟨0x70, [0x81], .err .addressNotAcknowledged⟩], [⟨.transportError, 2⟩]) := by decide

/-- B.6. -/
theorem test_off :
    after (step (offering { ready [ok] with blink := 3 } 0x030000 0)) shadow =
    some (false, 3, [⟨0x70, [0x80], .ok⟩], [⟨.ok, 0⟩]) := by decide

/-- B.6: 7 is sent as E7, 16 is refused and never sent as F0. -/
theorem test_setBrightness :
    after (step (offering (ready [ok]) 0x040700 0)) shadow =
      some (true, 0, [⟨0x70, [0xE7], .ok⟩], [⟨.ok, 0⟩]) ∧
    after (step (offering (ready [ok]) 0x041000 0)) shadow = some (true, 0, [], [⟨.invalidArgument, 1⟩]) := by
  decide

/-- B.6: with IS_ON = 1 the new mode is sent, with IS_ON = 0 nothing is. -/
theorem test_setBlinking :
    after (step (offering (ready [ok]) 0x050100 0)) shadow =
      some (true, 1, [⟨0x70, [0x83], .ok⟩], [⟨.ok, 0⟩]) ∧
    after (step (offering { ready [ok] with isOn := false } 0x050100 0)) shadow =
      some (false, 1, [], [⟨.ok, 0⟩]) := by decide

/-- B.6: err(1) keeps the new mode. -/
theorem test_setBlinking_fails :
    after (step (offering (ready [err .busNotAcquired]) 0x050200 0)) shadow =
      some (true, 2, [⟨0x70, [0x85], .err .busNotAcquired⟩], [⟨.transportError, 1⟩]) := by decide

/-- B.5, third row: eight different rows in payload order. -/
theorem test_set :
    after (step (offering (ready [ok]) 0x060000 0xF0DEBC9A78563412)) seen =
    some (#v[0x12, 0x34, 0x56, 0x78, 0x9A, 0xBC, 0xDE, 0xF0],
      [⟨0x70, [0, 0x09, 0, 0x1A, 0, 0x2B, 0, 0x3C, 0, 0x4D, 0, 0x5E, 0, 0x6F, 0, 0x78], .ok⟩],
      [⟨.ok, 0⟩]) := by decide

/-- B.5. -/
theorem test_clear :
    after (step (offering { ready [ok] with fb := Vector.replicate 8 0xFF } 0x070000 1)) seen =
    some (Vector.replicate 8 0, [⟨0x70, List.replicate 16 0, .ok⟩], [⟨.ok, 0⟩]) := by decide

/-- B.4. -/
theorem test_setRow :
    after (step (offering (ready [ok]) 0x080281 0)) seen =
    some (#v[0, 0, 0x81, 0, 0, 0, 0, 0], [⟨0x70, [0x04, 0xC0], .ok⟩], [⟨.ok, 0⟩]) := by decide

/-- B.4: err(3) keeps the row. -/
theorem test_setRow_fails :
    after (step (offering (ready [err .writeTimeout]) 0x080281 0)) seen =
    some (#v[0, 0, 0x81, 0, 0, 0, 0, 0], [⟨0x70, [0x04, 0xC0], .err .writeTimeout⟩],
      [⟨.transportError, 3⟩]) := by decide

/-- B.4. -/
theorem test_clearRow :
    after (step (offering { ready [ok] with fb := Vector.replicate 8 0xA5 } 0x090500 0)) seen =
    some (#v[0xA5, 0xA5, 0xA5, 0xA5, 0xA5, 0, 0xA5, 0xA5], [⟨0x70, [0x0A, 0x00], .ok⟩],
      [⟨.ok, 0⟩]) := by decide

/-- B.3, fourth row: the most significant bit of the operand goes to row 0. -/
theorem test_setColumn :
    after (step (offering { ready [ok] with fb := #v[0xFF, 0, 0xFF, 0, 0xFF, 0, 0xFF, 0] } 0x0A070F 0)) seen =
    some (#v[0xFE, 0, 0xFE, 0, 0xFF, 0x01, 0xFF, 0x01],
      [⟨0x70, [0, 0x7F, 0, 0, 0, 0x7F, 0, 0, 0, 0xFF, 0, 0x80, 0, 0xFF, 0, 0x80], .ok⟩],
      [⟨.ok, 0⟩]) := by decide

/-- B.3. -/
theorem test_clearColumn :
    after (step (offering { ready [ok] with fb := Vector.replicate 8 0xFF } 0x0B0000 0)) seen =
    some (Vector.replicate 8 0x7F, [⟨0x70, fullBytes (Vector.replicate 8 0xBF), .ok⟩], [⟨.ok, 0⟩]) := by
  decide

/-- B.4: row 3, column 5, then row 3, column 7 of a row that is not dark. -/
theorem test_setPixel :
    after (step (offering (ready [ok]) 0x0C0305 0)) seen =
      some (#v[0, 0, 0, 0x04, 0, 0, 0, 0], [⟨0x70, [0x06, 0x02], .ok⟩], [⟨.ok, 0⟩]) ∧
    after (step (offering { ready [ok] with fb := #v[0, 0, 0, 0x84, 0, 0, 0, 0] } 0x0C0307 0)) seen =
      some (#v[0, 0, 0, 0x85, 0, 0, 0, 0], [⟨0x70, [0x06, 0xC2], .ok⟩], [⟨.ok, 0⟩]) := by decide

/-- B.4: clear, and INFO 2 for a bad column. -/
theorem test_clearPixel :
    after (step (offering { ready [ok] with fb := #v[0, 0, 0, 0x85, 0, 0, 0, 0] } 0x0D0305 0)) seen =
      some (#v[0, 0, 0, 0x81, 0, 0, 0, 0], [⟨0x70, [0x06, 0xC0], .ok⟩], [⟨.ok, 0⟩]) ∧
    after (step (offering (ready [ok]) 0x0D0708 0)) seen =
      some (Vector.replicate 8 0, [], [⟨.invalidArgument, 2⟩]) := by decide

/-- B.7: illegal wins over not initialised, which wins over a bad operand. -/
theorem test_priority :
    after (step (offering State.reset 0x0E0000 0)) (·.rsp) = some [⟨.illegalOperation, 0⟩] ∧
    after (step (offering State.reset 0x080900 0)) (·.rsp) = some [⟨.notInitialised, 0⟩] ∧
    after (step (offering (ready []) 0x080900 0)) (·.rsp) = some [⟨.invalidArgument, 1⟩] := by decide

/-- A device whose fields are known, for the tests of wire messages. -/
def dark : Device := ⟨false, false, 0, 0, (List.range 16).map fun a => (a, 0xFF)⟩
def blank : State := { State.reset with dev := dark }

/-- R44, first arm. -/
theorem test_oscOn :
    after (step (blank.withFetchWord 8 0x21)) (·.dev) = some { dark with osc := true } := by decide
/-- R44, second arm. -/
theorem test_dimming :
    after (step (blank.withFetchWord 8 0xE7)) (·.dev) = some { dark with dim := 7 } := by decide
/-- R44, third arm. -/
theorem test_displayOn :
    after (step (blank.withFetchWord 8 0x87)) (·.dev) = some { dark with dispOn := true, dispBlink := 3 } := by
  decide
/-- R44, fourth arm. -/
theorem test_displayOff :
    after (step ({ blank with dev := { dark with dispOn := true } }.withFetchWord 8 0x80)) (·.dev.dispOn) =
      some false := by decide
/-- R44, fifth arm, with R93: wire byte C0 is row byte 81. -/
theorem test_rowWrite :
    after (step (blank.withFetchWord 16 0x04C0)) (fun t => (t.dev.ram.read 3, t.dev.ram.read 4, t.dev.pictureRow 2)) =
      some (some 0xFF, some 0xC0, some 0x81) := by decide
/-- R44, sixth arm: RAM[0x00..0x0E]; 0x0F is not written. -/
theorem test_fullWrite :
    after (step (blank.withFetchWord 128 0x0009001A002B003C004D005E006F0078)) (·.dev.ram) =
      some [(0, 0x09), (1, 0), (2, 0x1A), (3, 0), (4, 0x2B), (5, 0), (6, 0x3C), (7, 0), (8, 0x4D), (9, 0),
        (10, 0x5E), (11, 0), (12, 0x6F), (13, 0), (14, 0x78), (15, 0xFF)] := by decide

/-- R65, U6: a message that no arm of R44 covers stops the machine by name. -/
theorem test_unknown_wire_message :
    (match step (blank.withFetchWord 8 0x20) with
      | .fault r => some r
      | .next _ => none
      | .refused _ => none) = some .unknownWireMessage := by decide

/-- B.1: the column functions on F. -/
theorem test_transpose :
    transpose #v[0x12, 0x34, 0x56, 0x78, 0x9A, 0xBC, 0xDE, 0xF0] =
      #v[0x0F, 0x33, 0x55, 0xFF, 0x1E, 0x66, 0xAA, 0x00] ∧
    setcol #v[0x12, 0x34, 0x56, 0x78, 0x9A, 0xBC, 0xDE, 0xF0] 4 0x3C =
      #v[0x12, 0x34, 0x5E, 0x78, 0x9A, 0xBC, 0xD6, 0xF0] := by decide

/-- B.1: rotators on bytes whose images differ. -/
theorem test_rotators :
    [0x01, 0x80, 0xA5, 0x0F, 0x7F].map rotr8 = [0x80, 0x40, 0xD2, 0x87, 0xBF] ∧
    [0x80, 0x01, 0xC0, 0xD2].map rotl8 = [0x01, 0x02, 0x81, 0xA5] := by decide

/-! ## Witnesses: the hypotheses of every obligation are met -/

theorem witness_EncodeInvertsDecodeOfRequests :
    decodeRequest 0x060000 7 = .ok (.set 7) ∧ decodeRequest 0x0D0007 7 = .ok (.clearPixel 0 7) := by decide

theorem witness_IllegalWords_edges :
    (∃ e, decodeRequest 0x000000 0 = .error e) ∧ (∃ i, decodeRequest 0x010F70 0 = .ok i) ∧
    (∃ i, decodeRequest 0x0D0000 0 = .ok i) ∧ (∃ e, decodeRequest 0x0E0000 0 = .error e) :=
  ⟨⟨_, rfl⟩, ⟨_, rfl⟩, ⟨_, rfl⟩, ⟨_, rfl⟩⟩

theorem witness_PayloadIsReadOnlyBySet : (0x07 : Byte) ≠ 0x06 ∧ (0x05 : Byte) ≠ 0x06 := by decide

theorem witness_ColumnLaws : (7 : Fin 8) ≠ 0 := by decide

theorem witness_StepRunsTheDecodedRequest :
    let s := offering (ready [ok]) 0x080281 0
    s.busy = false ∧ s.tPort = none ∧ s.inputs = HostLines.offer 0x080281 0 :: [] ∧
      decodeRequest 0x080281 0 = .ok (.setRow 2 0x81) := by decide

theorem witness_StepRunsTheDecodedWireMessage :
    let s := blank.withFetchWord 16 0x04C0
    s.busy = false ∧ s.tPort = some [0x04, 0xC0] ∧ decodeWire [0x04, 0xC0] = .ok (.rowWrite 2 0xC0) := by decide

theorem witness_IllegalWordIsRefused :
    let s := offering (ready [ok]) 0x0E0000 0
    s.busy = false ∧ s.tPort = none ∧ s.inputs = HostLines.offer 0x0E0000 0 :: [] ∧
      decodeRequest 0x0E0000 0 = .error .undefinedOpcode := by decide

/-- A block that waits for the answer to a row message, with a request offered to it. -/
def waiting : State :=
  { ready [.silent] with busy := true, tPort := some [0x04, 0xC0], inputs := [HostLines.offer 0x020000 0] }

/-- The same while the host drives RESET. -/
def waitingReset : State := { waiting with inputs := [⟨true, false, 0, 0⟩] }

theorem witness_BusyBlockAcceptsNothing :
    waiting.busy = true ∧ waiting.inputs = HostLines.offer 0x020000 0 :: [] ∧
      (HostLines.offer 0x020000 0).reset = false := by decide

/-- The idle block: with nothing offered, and with an empty list of host lines. -/
theorem witness_BusyBlockAcceptsNothing_idle :
    let s := { ready [] with inputs := [HostLines.quiet] }
    s.busy = false ∧ s.tPort = none ∧ s.inputs = HostLines.quiet :: [] ∧ HostLines.quiet.reset = false ∧
      HostLines.quiet.valid = false ∧ (ready []).inputs = [] ∧ s.qReady HostLines.quiet = true := by decide

theorem witness_WaitingBlockStaysBusy :
    waiting.busy = true ∧ ∀ l ∈ waiting.inputs, l.reset = false := by decide

theorem witness_ResetValues : ∃ s : State, waiting.resetBlock = s.resetBlock := ⟨waiting, rfl⟩

theorem witness_ResetStep_idle :
    let s := { ready [] with inputs := [⟨true, true, 0x020000, 0⟩] }
    (s.busy = true ∨ s.tPort = none) ∧ s.inputs = ⟨true, true, 0x020000, 0⟩ :: [] ∧ s.tPort = none := by decide

theorem witness_ResetStep_waiting :
    (waitingReset.busy = true ∨ waitingReset.tPort = none) ∧
      waitingReset.inputs = ⟨true, false, 0, 0⟩ :: [] ∧
      waitingReset.tPort = some [BitVec.ofNat 8 (2 * (2 : Fin 8).val), 0xC0] := by decide

/-- One message in flight of each of the other five shapes; and RESET in the middle of an operation, two
micro-steps into an INIT. -/
theorem witness_ResetStep_shapes :
    { waitingReset with tPort := some [0x21] }.busy = true ∧
      ([0xEF] : Message) = [(0xE0 : Byte) ||| (15 : BitVec 4).setWidth 8] ∧
      ([0x87] : Message) = [(0x81 : Byte) ||| ((3 : BitVec 2).setWidth 8 <<< 1)] ∧
      { waitingReset with tPort := some [0x80] }.busy = true ∧
      { waitingReset with tPort := some (List.replicate 16 0) }.tPort =
        some (fullBytes (Vector.replicate 8 0)) := by
  decide

theorem witness_ResetStep_micro :
    let s := ({ State.reset with replies := [ok] }.tick (HostLines.offer 0x010F70 0)).ticks 2
    s.busy = true ∧ s.tPort = none ∧ s.phase = 2 ∧ s.tx ≠ [] ∧
      (s.tick ⟨true, false, 0, 0⟩).busy = false := by decide

theorem witness_ErrorPriority_illegal : decodeRequest 0x000000 0 = .error .undefinedOpcode := by decide
theorem witness_ErrorPriority_notInitialised :
    decodeRequest 0x080900 0 = .ok (.setRow 9 0) ∧ isInit (.setRow 9 0) = false ∧
      State.reset.inited = false := by decide
theorem witness_ErrorPriority_operand :
    decodeRequest 0x080800 0 = .ok (.setRow 8 0) ∧ (ready []).inited = true ∧
      operandError (.setRow 8 0) = some 1 ∧ decodeRequest 0x0C0708 0 = .ok (.setPixel 7 8) ∧
      operandError (.setPixel 7 8) = some 2 := by decide
theorem witness_ErrorPriority_runs :
    decodeRequest 0x0807FF 0 = .ok (.setRow 7 0xFF) ∧ operandError (.setRow 7 0xFF) = none ∧
      decodeRequest 0x010F70 0 = .ok (.init 15 0x70) ∧ operandError (.init 15 0x70) = none ∧
      operandError (.init 16 0x70) = some 1 := by decide

theorem witness_InitBringsUpTheBlock :
    15 < (16 : Byte).toNat ∧ (15 : Byte).toNat ≤ 15 ∧
      ∀ k, k < 4 → coming { State.reset with replies := [ok, ok, ok, ok] } k = .answered .ok := by decide

theorem witness_InitCutShort (n : Fin 4) :
    let s := { State.reset with replies := List.replicate n.val ok ++ [err .writeTimeout] }
    (15 : Byte).toNat ≤ 15 ∧ (∀ k, k < n.val → coming s k = .answered .ok) ∧
      coming s n.val = .answered (.err .writeTimeout) := by
  revert n
  decide

/-- Both sides of the gate, the operand ranges at their edges, and both answers, for the operations on rows,
columns and pixels. -/
theorem witness_rows_and_columns :
    State.reset.inited = false ∧ (ready []).inited = true ∧ 7 < (8 : Byte).toNat ∧ (7 : Byte).toNat ≤ 7 ∧
      (7 : Byte).toNat = (7 : Fin 8).val ∧ (ready [ok]).reply = .answered .ok ∧
      (ready [err .writeTimeout]).reply = .answered (.err .writeTimeout) := by decide

/-- The same for SET, CLEAR, ON and OFF, which have no operand to check. -/
theorem witness_operand_free :
    State.reset.inited = false ∧ (ready [ok]).inited = true ∧ (ready [ok]).reply = .answered .ok ∧
      (ready [err .busNotAcquired]).inited = true ∧
      (ready [err .busNotAcquired]).reply = .answered (.err .busNotAcquired) := by decide

/-- Fields that must be zero and are not. -/
theorem witness_nonzero_fields :
    (0x01 : Byte) ≠ 0x00 ∧ ((0x00 : Byte) ≠ 0x00 ∨ (0x01 : Byte) ≠ 0x00) ∧ (0xF0 : Byte).getLsbD 7 = true := by
  decide

theorem witness_SetBrightness : 15 < (16 : Byte).toNat ∧ (15 : Byte).toNat ≤ 15 := by decide

theorem witness_SetBlinking :
    3 < (4 : Byte).toNat ∧ (3 : Byte).toNat = (3 : BitVec 2).toNat ∧ (ready []).isOn = true ∧
      { ready [] with isOn := false }.isOn = false ∧ { ready [] with isOn := false }.inited = true := by decide

theorem witness_BlinkModeIsLatched :
    (ready [ok, ok]).inited = true ∧ (ready [ok, ok]).isOn = true ∧ coming (ready [ok, ok]) 0 = .answered .ok ∧
      coming (ready [ok, ok]) 1 = .answered .ok ∧ { ready [ok] with isOn := false }.inited = true ∧
      { ready [ok] with isOn := false }.isOn = false ∧
      coming { ready [ok] with isOn := false } 0 = .answered .ok := by decide

theorem witness_DeviceExecutesWrites : (0 : Nat) < 7 ∧ (15 : Nat) ≤ 15 ∧ 15 ≠ 2 * (7 : BitVec 3).toNat := by
  decide

theorem witness_RowOperationsOnTheDevice :
    (ready [ok]).inited = true ∧ (7 : Byte).toNat = (7 : Fin 8).val ∧
      (∃ answer, (ready [ok]).reply = .answered answer) ∧
      ∃ answer, (ready [err .writeTimeout]).reply = .answered answer :=
  ⟨rfl, rfl, ⟨_, rfl⟩, ⟨_, rfl⟩⟩

theorem witness_FullOperationsOnTheDevice :
    (ready [ok]).inited = true ∧ (0 : Byte).toNat = (0 : Fin 8).val ∧ (15 : Nat) ≤ 15 ∧
      ∃ answer, (ready [ok]).reply = .answered answer :=
  ⟨rfl, rfl, by decide, ⟨_, rfl⟩⟩

theorem witness_CommandOperationsOnTheDevice :
    (ready [ok]).inited = true ∧ (15 : Byte).toNat = (15 : BitVec 4).toNat ∧
      (3 : Byte).toNat = (3 : BitVec 2).toNat ∧ (ready [ok]).isOn = true ∧
      ∃ answer, (ready [ok]).reply = .answered answer :=
  ⟨rfl, rfl, rfl, rfl, ⟨_, rfl⟩⟩

theorem witness_BlockNeverReadsTheDevice : (Instr.setPixel 3 5).isRequest = true := by decide

theorem witness_FrameBufferWriters :
    (6 : Fin 8).val ≠ (7 : Byte).toNat ∧ (0 : Fin 8).val ≠ (1 : Byte).toNat := by decide

theorem witness_ControlRegisterWriters :
    isInit (.setRow 2 0x81) = false ∧ (∀ mode, Instr.setRow 2 0x81 ≠ .setBlinking mode) ∧
      Instr.setRow 2 0x81 ≠ .on ∧ Instr.setRow 2 0x81 ≠ .off :=
  ⟨rfl, nofun, nofun, nofun⟩

theorem witness_OneResponsePerRequest :
    Instr.oscOn.isRequest = false ∧ Instr.on.isRequest = true := by decide

theorem witness_RepeatingIsSafe : isInit (.clearColumn 7) = false := by decide

/-- INIT twice, every Send answered ok: both runs complete and all eight records are ok. -/
theorem witness_RepeatingIsSafe_init :
    ∃ t u, exec (.init 15 0x70) { State.reset with replies := [ok, ok, ok, ok] } = .next t ∧
      exec (.init 15 0x70) { t with replies := [ok, ok, ok, ok] } = .next u ∧
      t.busy = false ∧ u.busy = false ∧ u.tx.length = 8 ∧ ∀ r ∈ u.tx.drop 0, r.answer = .ok := by
  refine ⟨_, _, rfl, rfl, ?_⟩
  decide

theorem witness_SilentTransportHangs :
    (Instr.setBlinking 3).isRequest = true ∧ operandError (.setBlinking 3) = none ∧
      (ready [.silent]).inited = true ∧
      (∀ mode, Instr.setBlinking 3 = .setBlinking mode → (ready [.silent]).isOn = true) ∧
      (ready [.silent]).reply = .silent :=
  ⟨rfl, rfl, rfl, fun _ _ => rfl, rfl⟩

theorem witness_SilentTransportHangs_init (n : Fin 4) :
    let s := { State.reset with replies := List.replicate n.val ok ++ [.silent] }
    (15 : Byte).toNat ≤ 15 ∧ (∀ k, k < n.val → coming s k = .answered .ok) ∧ coming s n.val = .silent := by
  revert n
  decide

theorem witness_ResponseCodes : ({ ready [] with rPort := some ⟨.ok, 0⟩ }).rPort = some ⟨.ok, 0⟩ := by decide

/-- After INIT 15, 0x70 from reset, every Send answered ok (95_test_vectors B.2), and with a row write offered. -/
def broughtUp : State :=
  { (exec (.init 15 0x70) { State.reset with replies := [ok, ok, ok, ok, ok] } |> (after · id)).getD State.reset with
    inputs := [HostLines.offer 0x080281 0] }

theorem witness_StepKeepsMessageShapes :
    (∀ r ∈ [(⟨0x70, [0x21], .ok⟩ : TxRecord), ⟨0x70, [0x80], .ok⟩], SixShapes r.msg) ∧
      ∃ t, step { ready [ok] with tx := [⟨0x70, [0x21], .ok⟩, ⟨0x70, [0x80], .ok⟩] } = .next t := by
  refine ⟨?_, _, rfl⟩
  intro r hr
  simp only [List.mem_cons, List.not_mem_nil, or_false] at hr
  obtain rfl | rfl := hr
  · exact .inl rfl
  · exact .inr (.inr (.inr (.inl rfl)))

theorem witness_StepKeepsRamCanonical :
    broughtUp.dev.ram.wf = true ∧ broughtUp.dev.ram ≠ [] ∧ ∃ t, step broughtUp = .next t := by
  exact ⟨by decide, by decide, _, rfl⟩

theorem witness_StepKeepsShadowInvariant :
    ShadowInvariant broughtUp ∧ broughtUp.inited = true ∧ (after (step broughtUp) (·.fb[2])) = some 0x81 := by
  unfold ShadowInvariant PortQuiet MirrorsDevice ShadowMatches
  decide

theorem witness_MirrorProperty :
    ∃ t, core.run 2 { State.reset with
        inputs := [HostLines.offer 0x010F70 0, HostLines.offer 0x080281 0], replies := [ok, ok, ok, ok, ok] } =
      .next t ∧ (∀ r ∈ t.tx, r.answer = .ok) ∧ t.inited = true ∧ t.busy = false := by
  refine ⟨_, rfl, ?_⟩
  decide

theorem witness_ShadowStateIsWhatWasSent :
    ∃ t, core.run 2 { State.reset with
        inputs := [HostLines.offer 0x010F70 0, HostLines.offer 0x010F70 0],
        replies := [err .busNotAcquired, ok, ok, ok, ok] } =
      .next t ∧ (∀ r ∈ sinceInit t.tx, r.answer = .ok) ∧ t.inited = true ∧ t.busy = false := by
  refine ⟨_, rfl, ?_⟩
  decide

theorem witness_MicroStepsRefineTheCycle :
    (ready [ok]).busy = false ∧ (ready [ok]).tPort = none ∧ 8 ≤ 8 := by decide

theorem witness_WriteComesBeforeSend :
    (ready [ok]).busy = false ∧ (ready [ok]).inited = true ∧ (7 : Byte).toNat = (7 : Fin 8).val := by decide

/-- A message of each of the six shapes, at the edges of its operands. -/
theorem witness_TransportPortSignals :
    SixShapes [0x21] ∧ SixShapes [0xEF] ∧ SixShapes [0x87] ∧ SixShapes [0x80] ∧ SixShapes [0x0E, 0xFF] ∧
      SixShapes (fullBytes (Vector.replicate 8 0xFF)) :=
  ⟨.inl rfl, .inr (.inl ⟨15, rfl⟩), .inr (.inr (.inl ⟨3, rfl⟩)), .inr (.inr (.inr (.inl rfl))),
    .inr (.inr (.inr (.inr (.inl ⟨7, 0xFF, rfl⟩)))), .inr (.inr (.inr (.inr (.inr ⟨_, rfl⟩))))⟩

end Sys2Proof.Tests
end

section
/-! The whole cycle: which turn an idle block takes, and what it does with an offer (00_scope R9). -/

namespace Sys2Proof.Machine

/-- With nothing on its port an idle block takes the host's turn. -/
theorem step_idle_quietPort {s : State} (hb : s.busy = false) (ht : s.tPort = none) :
    step s = s.nextLines.hostTurn s.lines := by
  simp only [step, State.turn, hb, ht]

theorem State.hostTurn_offer {s : State} (hb : s.busy = false) (cw : CommandWord) (p : Payload) :
    s.hostTurn (HostLines.offer cw p) = s.request cw p := by
  simp [State.hostTurn, HostLines.offer, hb]

theorem State.request_decoded {cw : CommandWord} {p : Payload} {i : Instr}
    (hi : decodeRequest cw p = .ok i) (s : State) : s.request cw p = exec i (s.accept cw p) := by
  simp only [State.request, hi]

theorem State.request_undecoded {cw : CommandWord} {p : Payload} {e : Reject}
    (he : decodeRequest cw p = .error e) (s : State) :
    s.request cw p = .next ((s.accept cw p).raise .illegalOperation) := by
  simp only [State.request, he]

/-- Settles O13: the turn is the host's, the offer is a request, and the request is its instruction behind
the acceptance. -/
theorem stepRunsTheDecodedRequest : Obligations.StepRunsTheDecodedRequest := by
  intro s cw p rest i hb ht hin hi
  have hlines : s.lines = HostLines.offer cw p := by simp [State.lines, hin]
  have hnext : s.nextLines = { s with inputs := rest } := by simp [State.nextLines, hin]
  calc step s = s.nextLines.hostTurn (HostLines.offer cw p) := by rw [step_idle_quietPort hb ht, hlines]
    _ = s.nextLines.request cw p := State.hostTurn_offer (s := s.nextLines) hb cw p
    _ = exec i (s.nextLines.accept cw p) := State.request_decoded hi _
    _ = _ := by rw [hnext]; rfl

end Sys2Proof.Machine
end

section
/-! What the micro-steps of a body read and leave unchanged (00_scope R6, 10_state R18): no micro-step touches
what names the next one, and the body found again from REQ_CW and REQ_P is still the same. -/

namespace Sys2Proof.Machine

/-- A body depends on the state through IS_ON alone. -/
theorem bodyOf_congr (i : Instr) {s t : State} (h : s.isOn = t.isOn) : bodyOf i s = bodyOf i t := by
  cases i with
  | setBlinking mode => simp only [bodyOf, h]
  | _ => rfl

/-- The writes of a body leave alone what the running operation is found from. -/
theorem bodyOf_write_keeps_request {i : Instr} {s₀ : State} {f : State → State}
    (hf : .write f ∈ bodyOf i s₀) :
    ∀ s, (f s).busy = s.busy ∧ (f s).reqCw = s.reqCw ∧ (f s).reqP = s.reqP ∧ (f s).phase = s.phase :=
  bodyOf_writes i s₀
    (P := fun f => ∀ s, (f s).busy = s.busy ∧ (f s).reqCw = s.reqCw ∧ (f s).reqP = s.reqP ∧
      (f s).phase = s.phase)
    (fun _ _ _ => ⟨rfl, rfl, rfl, rfl⟩) (fun _ _ => ⟨rfl, rfl, rfl, rfl⟩)
    (fun _ _ => ⟨rfl, rfl, rfl, rfl⟩) (fun _ _ => ⟨rfl, rfl, rfl, rfl⟩)
    (fun _ _ => ⟨rfl, rfl, rfl, rfl⟩) (fun _ _ => ⟨rfl, rfl, rfl, rfl⟩) f hf

/-- After a write of a body the body is the same: SET_BLINKING alone reads IS_ON, and it writes IS_ON <- 1 only
where IS_ON is 1 (R143). -/
theorem bodyOf_after_write {i : Instr} {s : State} {f : State → State} (hf : .write f ∈ bodyOf i s) :
    bodyOf i (f s) = bodyOf i s := by
  cases i with
  | setBlinking mode =>
    apply bodyOf_congr
    cases hon : s.isOn with
    | false =>
      have hfe : f = writeBlink (modeOf mode) := by simpa [bodyOf, setBlinkingBody, hon] using hf
      rw [hfe, writeBlink_isOn, hon]
    | true =>
      have hfe : f = writeBlink (modeOf mode) ∨ f = writeIsOn true := by
        simpa [bodyOf, setBlinkingBody, onBody, sendDisplayOn, hon] using hf
      obtain rfl | rfl := hfe
      · rw [writeBlink_isOn, hon]
      · rw [writeIsOn_isOn]
  | _ => rfl

/-- The message of a Send is built from FB and BLINK alone. -/
theorem bodyOf_send_reads {i : Instr} {s₀ : State} {m : State → Message} (hm : .send m ∈ bodyOf i s₀)
    {s t : State} (hfb : s.fb = t.fb) (hblink : s.blink = t.blink) : m s = m t := by
  cases i <;>
    simp [bodyOf, initBody, onBody, offBody, setBrightnessBody, setBlinkingBody, setBody, clearBody,
      setRowBody, clearRowBody, setColumnBody, clearColumnBody, setPixelBody, clearPixelBody, sendOsc,
      sendBrightness, sendFull, sendDisplayOn, sendDisplayOff, sendRow] at hm
  case init => obtain rfl | rfl | rfl | rfl := hm <;> simp only [hfb, hblink]
  case setBlinking =>
    obtain ⟨-, rfl⟩ : s₀.isOn = true ∧ _ := by simpa using hm
    simp only [hblink]
  all_goals (subst hm; simp only [hfb, hblink])

/-- A request's body has a micro-step, and no more of them than PHASE can name. -/
theorem bodyOf_length {i : Instr} (hi : i.isRequest = true) (s : State) :
    bodyOf i s ≠ [] ∧ (bodyOf i s).length ≤ 8 := by
  cases i with
  | setBlinking mode => cases hon : s.isOn <;> simp [bodyOf, setBlinkingBody, onBody, hon]
  | _ =>
    simp [Instr.isRequest] at hi <;>
      simp [bodyOf, initBody, onBody, offBody, setBrightnessBody, setBody, clearBody, setRowBody,
        clearRowBody, setColumnBody, clearColumnBody, setPixelBody, clearPixelBody]

end Sys2Proof.Machine
end

section
/-! The micro-step machine runs the body (00_scope R6, R9, 10_state R18). -/

namespace Sys2Proof.Machine

/-- A state in which a quiet tick changes nothing stays. -/
theorem State.ticks_of_tick_eq {s : State} (h : s.tick HostLines.quiet = s) (n : Nat) : s.ticks n = s := by
  induction n with
  | zero => rfl
  | succ k ih => rw [State.ticks, h, ih]

/-- An idle block of which nothing is asked does nothing (R156). -/
theorem State.ticks_idle {s : State} (hb : s.busy = false) (n : Nat) : s.ticks n = s :=
  State.ticks_of_tick_eq (by simp [State.tick, HostLines.quiet, hb]) n

theorem State.resetBlock_busy (s : State) : s.resetBlock.busy = false := by
  unfold State.resetBlock
  split <;> rfl

/-- The block is in the middle of the request `i`: of its body PHASE has counted `done`, and `todo` is left. -/
structure Running (i : Instr) (done todo : List Micro) (s : State) : Prop where
  busy : s.busy = true
  request : decodeRequest s.reqCw s.reqP = .ok i
  body : bodyOf i s = done ++ todo
  phase : s.phase.toNat = done.length

namespace Running

variable {i : Instr} {done rest todo : List Micro} {micro : Micro} {s : State}

/-- A quiet tick runs the first micro-step that is left. -/
theorem tick (h : Running i done todo s) : s.tick HostLines.quiet = s.micro todo := by
  have hbody : (bodyOf i s).drop s.phase.toNat = todo := by
    rw [h.body, h.phase, List.drop_left]
  simp [State.tick, HostLines.quiet, h.busy, State.resume, h.request, hbody]

theorem accept {cw : CommandWord} {p : Payload} (hi : decodeRequest cw p = .ok i) (s : State) :
    Running i [] (bodyOf i (s.accept cw p)) (s.accept cw p) :=
  ⟨rfl, hi, rfl, rfl⟩

theorem write {f : State → State} (h : Running i done (.write f :: rest) s) :
    Running i done (.write f :: rest) (f s) := by
  have hf : .write f ∈ bodyOf i s := by simp [h.body]
  obtain ⟨hbusy, hcw, hp, hphase⟩ := bodyOf_write_keeps_request hf s
  exact ⟨hbusy.trans h.busy, by rw [hcw, hp, h.request], (bodyOf_after_write hf).trans h.body,
    by rw [hphase, h.phase]⟩

theorem sendOk (h : Running i done todo s) (m : Message) : Running i done todo (s.sendOk m) :=
  ⟨h.busy, h.request, (bodyOf_congr i (State.sendOk_isOn s m)).trans h.body, h.phase⟩

theorem hang (h : Running i done todo s) (m : Message) : Running i done todo (s.hang m) :=
  ⟨rfl, h.request, (bodyOf_congr i (State.hang_isOn s m)).trans h.body, h.phase⟩

/-- PHASE counts a micro-step that is not the last; being three bits wide it does not wrap there. -/
theorem advance (h : Running i done (micro :: rest) s) (hrest : rest ≠ []) :
    Running i (done ++ [micro]) rest s.advance := by
  have hlen := (bodyOf_length (decodeRequest_isRequest h.request) s).2
  have hpos := List.length_pos_of_ne_nil hrest
  rw [h.body, List.length_append, List.length_cons] at hlen
  refine ⟨h.busy, h.request, ?_, ?_⟩
  · rw [bodyOf_congr i (State.advance_isOn s), h.body, List.append_assoc, List.singleton_append]
  · have hphase := h.phase
    rw [State.advance_phase, List.length_append, List.length_singleton]
    bv_omega

/-- A Send that is never answered is tried again in every tick, with the same message (R192, log 5). -/
theorem ticks_hang {m : State → Message} (h : Running i done (.send m :: rest) s)
    (hr : s.reply = .silent) (n : Nat) : (s.hang (m s)).ticks n = s.hang (m s) := by
  have hm : .send m ∈ bodyOf i s := by simp [h.body]
  have hsame : m (s.hang (m s)) = m s := bodyOf_send_reads hm rfl rfl
  have hsilent : (s.hang (m s)).reply = .silent := hr
  apply State.ticks_of_tick_eq
  rw [(h.hang (m s)).tick, State.micro, hsilent]
  simp only [hsame]
  rfl

/-- The micro-steps that are left, one at a time, end where the body run as a whole ends. -/
theorem ticks (h : Running i done todo s) (hne : todo ≠ []) {n : Nat} (hn : todo.length ≤ n) :
    s.ticks n = runBody todo s := by
  induction todo generalizing done s n with
  | nil => exact absurd rfl hne
  | cons micro rest ih =>
    obtain ⟨k, rfl⟩ : ∃ k, n = k + 1 := ⟨n - 1, by simp at hn; omega⟩
    have hk : rest.length ≤ k := by simpa using hn
    have finish {t : State} (ht : Running i done (micro :: rest) t) :
        (t.finish rest).ticks k = runBody rest t.advance := by
      cases hrest : rest with
      | nil => exact State.ticks_idle rfl k
      | cons next rest' =>
        have hne' : rest ≠ [] := by simp [hrest]
        rw [← hrest, ← ih (ht.advance hne') hne' hk]
        simp [State.finish, hrest]
    rw [State.ticks, h.tick]
    cases micro with
    | write f => exact finish h.write
    | send m =>
      rcases hr : s.reply with (_ | kind) | _
      · rw [runBody_send_ok hr, ← finish (h.sendOk (m s))]
        simp [State.micro, hr]
      · rw [runBody_send_err hr]
        simp only [State.micro, hr]
        exact State.ticks_idle rfl k
      · rw [runBody_send_silent hr, ← h.ticks_hang hr k]
        simp only [State.micro, hr]

end Running

/-- From its acceptance on, a request comes to the same end by ticks as in the whole cycle. -/
theorem State.request_eq_begin_ticks (s : State) (cw : CommandWord) (p : Payload) {n : Nat} (hn : 8 ≤ n) :
    s.request cw p = .next ((s.begin cw p).ticks n) := by
  cases hd : decodeRequest cw p with
  | error e =>
    simp only [State.request_undecoded hd, State.begin, hd]
    rw [State.ticks_idle rfl]
  | ok i =>
    have hi := decodeRequest_isRequest hd
    rw [State.request_decoded hd, exec_request hi]
    simp only [State.begin, hd]
    cases hc : checkOf i (s.accept cw p) with
    | some e => rw [runChecked_some, State.ticks_idle rfl]
    | none =>
      obtain ⟨hne, hlen⟩ := bodyOf_length hi (s.accept cw p)
      rw [runChecked_none, (Running.accept hd s).ticks hne (hlen.trans hn)]

/-- Settles O56, by the three things an idle block can be driven to: RESET, a request, nothing. The first and the
last leave it idle; a request is run by `Running.ticks`. -/
theorem microStepsRefineTheCycle : Obligations.MicroStepsRefineTheCycle := by
  intro s l n hb _ hn
  by_cases hreset : l.reset = true
  · simp [State.hostTurn, State.tick, hreset, State.ticks_idle s.resetBlock_busy]
  · by_cases hvalid : l.valid = true
    · simp [State.hostTurn, State.tick, hreset, hb, hvalid, State.request_eq_begin_ticks s l.cw l.p hn]
    · simp [State.hostTurn, State.tick, hreset, hb, hvalid, State.ticks_idle hb]

end Sys2Proof.Machine
end

section
/-! What the requests of an idle block start from: RESET and acceptance (10_state R24, 70_reset_and_hazards R180). -/

namespace Sys2Proof.Machine

/-- RESET leaves the reset state but for the device and for what is to come. -/
theorem State.resetBlock_eq (s : State) :
    ∃ dev replies draws, s.resetBlock =
      { State.reset with dev := dev, inputs := s.inputs, replies := replies, draws := draws } := by
  unfold State.resetBlock
  split <;> exact ⟨_, _, _, rfl⟩

/-- Acceptance overwrites REQ_CW and REQ_P before anything reads them (R18). -/
theorem State.request_ignores_reqCw_reqP (s : State) (cw x : CommandWord) (p y : Payload) :
    { s with reqCw := x, reqP := y }.request cw p = s.request cw p := by
  have haccept : { s with reqCw := x, reqP := y }.accept cw p = s.accept cw p := rfl
  simp only [State.request, haccept]

/-- Settles O18: `State.reset` and a state after RESET are the reset values with a device and a future. -/
theorem resetValues : Obligations.ResetValues := by
  intro t ht
  obtain ⟨dev, inputs, replies, draws, rfl⟩ : ∃ dev inputs replies draws, t =
      { State.reset with dev := dev, inputs := inputs, replies := replies, draws := draws } := by
    obtain rfl | ⟨s, rfl⟩ := ht
    · exact ⟨_, _, _, _, rfl⟩
    · obtain ⟨dev, replies, draws, hs⟩ := s.resetBlock_eq
      exact ⟨dev, s.inputs, replies, draws, hs⟩
  refine ⟨fun i => ?_, rfl, rfl, rfl, rfl, rfl, rfl, rfl, rfl, rfl, fun cw x p y => ?_⟩
  · simp [State.reset]
  · exact State.request_ignores_reqCw_reqP _ cw x p y

end Sys2Proof.Machine
end

section
/-! Which registers an instruction may change (10_state R12 to R18): only the writes of its body touch them. -/

namespace Sys2Proof.Machine

/-- The registers of the block but BUSY and PHASE, and the host's coming lines. -/
structure Registers where
  fb : Buffer
  isOn : Bool
  blink : BitVec 2
  addr : BusAddress
  inited : Bool
  reqCw : CommandWord
  reqP : Payload
  inputs : List HostLines

def State.registers (s : State) : Registers :=
  ⟨s.fb, s.isOn, s.blink, s.addr, s.inited, s.reqCw, s.reqP, s.inputs⟩

/-- What the writes of an instruction's body keep of the registers, the instruction keeps. -/
theorem exec_keeps_registers {i : Instr} {s : State} {Q : Registers → Prop} (hs : Q s.registers)
    (hwrite : checkOf i s = none → ∀ f, .write f ∈ bodyOf i s →
      ∀ u : State, Q u.registers → Q (f u).registers) :
    ∃ t, exec i s = .next t ∧ Q t.registers := by
  cases hi : i.isRequest with
  | false =>
    obtain ⟨m, hm⟩ := exec_wire hi s
    exact ⟨_, hm, hs⟩
  | true =>
    refine ⟨_, exec_request hi s, ?_⟩
    cases hc : checkOf i s with
    | some e => exact hs
    | none =>
      exact runBody_keeps (P := fun u => Q u.registers) (fun _ _ h => h) (fun _ h => h) (fun _ _ h => h)
        (fun _ _ _ h => h) (fun _ _ h => h) _ (hwrite hc) s hs

/-! ## The checks -/

theorem gateAndOperands_eq_none {s : State} {bad : Option Which} :
    gateAndOperands s bad = none ↔ s.inited = true ∧ bad = none := by
  cases hs : s.inited <;> simp [gateAndOperands, hs]

theorem checkIndex_eq_none {a : Byte} : checkIndex a = none ↔ a.toNat ≤ 7 := by
  simp [checkIndex, checkA]

theorem checkPixel_eq_none {a b : Byte} : checkPixel a b = none ↔ a.toNat ≤ 7 ∧ b.toNat ≤ 7 := by
  unfold checkPixel
  split_ifs <;> simp [*]

theorem gate_index_legal {s : State} {a : Byte} (h : gateAndOperands s (checkIndex a) = none) :
    a.toNat ≤ 7 :=
  checkIndex_eq_none.mp (gateAndOperands_eq_none.mp h).2

theorem gate_pixel_row_legal {s : State} {a b : Byte} (h : gateAndOperands s (checkPixel a b) = none) :
    a.toNat ≤ 7 :=
  (checkPixel_eq_none.mp (gateAndOperands_eq_none.mp h).2).1

/-- A legal index operand is its own index (R57, log 18). -/
theorem index_val {a : Byte} (h : a.toNat ≤ 7) : (index a).val = a.toNat :=
  Nat.mod_eq_of_lt (Nat.lt_succ_of_le h)

/-! ## The frame buffer (R12) -/

/-- An instruction whose body writes nothing but one row, after that row's check. -/
theorem exec_writes_row {i : Instr} {s : State} {row : Byte}
    (hcheck : checkOf i s = none → row.toNat ≤ 7)
    (hbody : ∀ f, .write f ∈ bodyOf i s → ∃ g : State → Byte, f = fun u => writeRow (index row) (g u) u) :
    ∃ t, exec i s = .next t ∧ ∀ k : Fin 8, k.val ≠ row.toNat → t.fb[k] = s.fb[k] := by
  refine exec_keeps_registers (Q := fun r => ∀ k : Fin 8, k.val ≠ row.toNat → r.fb[k] = s.fb[k])
    (fun _ _ => rfl) ?_
  intro hc f hf u hu k hk
  obtain ⟨g, rfl⟩ := hbody f hf
  have hne : (index row).val ≠ k.val := by rw [index_val (hcheck hc)]; exact hk.symm
  rw [← hu k hk]
  exact Vector.getElem_set_ne (index row).isLt k.isLt hne

theorem colmask_getLsbD (c k : Fin 8) : (colmask c).getLsbD (7 - k.val) = decide (k = c) := by
  revert c k
  decide

theorem setbit_getLsbD (b : Byte) (c k : Fin 8) :
    (setbit b c).getLsbD (7 - k.val) = (b.getLsbD (7 - k.val) || decide (k = c)) := by
  rw [setbit, BitVec.getLsbD_or, colmask_getLsbD]

theorem clrbit_getLsbD (b : Byte) (c k : Fin 8) :
    (clrbit b c).getLsbD (7 - k.val) = (b.getLsbD (7 - k.val) && !decide (k = c)) := by
  have hlt : 7 - k.val < 8 := by omega
  rw [clrbit, BitVec.getLsbD_and, BitVec.getLsbD_not, colmask_getLsbD, decide_eq_true hlt, Bool.true_and]

/-- A pixel is the bit of weight 7 - c of its row (R11). -/
theorem getpixel_eq (f : Buffer) (r c : Fin 8) : getpixel f r c = BitVec.ofBool (f[r].getLsbD (7 - c.val)) := by
  apply BitVec.eq_of_getLsbD_eq
  intro j hj
  obtain rfl : j = 0 := by omega
  simp [getpixel]

theorem getpixel_clrcol_other (f : Buffer) {c c' : Fin 8} (k : Fin 8) (h : c' ≠ c) :
    getpixel (clrcol f c) k c' = getpixel f k c' := by
  simp [getpixel_eq, clrcol, clrbit_getLsbD, h]

theorem getpixel_setcol_other (f : Buffer) {c c' : Fin 8} (b : Byte) (k : Fin 8) (h : c' ≠ c) :
    getpixel (setcol f c b) k c' = getpixel f k c' := by
  rw [← getpixel_clrcol_other f k h]
  cases hb : b.getLsbD (7 - k.val) <;> simp [getpixel_eq, setcol, setbit_getLsbD, hb, h]

/-- An instruction whose body writes nothing but one column, after that column's check. -/
theorem exec_writes_column {i : Instr} {s : State} {column : Byte}
    (hcheck : checkOf i s = none → column.toNat ≤ 7)
    (hbody : ∀ f, .write f ∈ bodyOf i s → ∃ g : Buffer → Buffer, (f = fun u => writeRows (g u.fb) u) ∧
      ∀ b k c, c ≠ index column → getpixel (g b) k c = getpixel b k c) :
    ∃ t, exec i s = .next t ∧
      ∀ k c : Fin 8, c.val ≠ column.toNat → getpixel t.fb k c = getpixel s.fb k c := by
  refine exec_keeps_registers
    (Q := fun r => ∀ k c : Fin 8, c.val ≠ column.toNat → getpixel r.fb k c = getpixel s.fb k c)
    (fun _ _ _ => rfl) ?_
  intro hc f hf u hu k c hk
  obtain ⟨g, rfl, hg⟩ := hbody f hf
  have hne : c ≠ index column := fun h => hk (by rw [h, index_val (hcheck hc)])
  rw [← hu k c hk]
  exact hg _ k c hne

/-- An instruction whose body writes no row. -/
theorem exec_writes_no_row {i : Instr} {s : State}
    (hbody : ∀ f, .write f ∈ bodyOf i s → ∀ u : State, (f u).fb = u.fb) :
    ∃ t, exec i s = .next t ∧ t.fb = s.fb :=
  exec_keeps_registers (Q := fun r => r.fb = s.fb) rfl fun _ f hf u hu => (hbody f hf u).trans hu

/-- Settles O44: each instruction by what its body writes. -/
theorem frameBufferWriters : Obligations.FrameBufferWriters := by
  intro i s
  cases i with
  | init brightness address => exact ⟨_, exec_request rfl s, trivial⟩
  | set bitmap => exact ⟨_, exec_request rfl s, trivial⟩
  | clear => exact ⟨_, exec_request rfl s, trivial⟩
  | setRow row byte =>
    refine exec_writes_row gate_index_legal fun f hf => ?_
    exact ⟨fun _ => byte, by simpa [bodyOf, setRowBody, sendRow] using hf⟩
  | clearRow row =>
    refine exec_writes_row gate_index_legal fun f hf => ?_
    exact ⟨fun _ => 0x00, by simpa [bodyOf, clearRowBody] using hf⟩
  | setPixel row column =>
    refine exec_writes_row gate_pixel_row_legal fun f hf => ?_
    exact ⟨_, by simpa [bodyOf, setPixelBody, sendRow] using hf⟩
  | clearPixel row column =>
    refine exec_writes_row gate_pixel_row_legal fun f hf => ?_
    exact ⟨_, by simpa [bodyOf, clearPixelBody, sendRow] using hf⟩
  | setColumn column byte =>
    refine exec_writes_column gate_index_legal fun f hf => ?_
    exact ⟨(setcol · (index column) byte), by simpa [bodyOf, setColumnBody, sendFull] using hf,
      fun b k _ h => getpixel_setcol_other b byte k h⟩
  | clearColumn column =>
    refine exec_writes_column gate_index_legal fun f hf => ?_
    exact ⟨(clrcol · (index column)), by simpa [bodyOf, clearColumnBody, sendFull] using hf,
      fun b k _ h => getpixel_clrcol_other b k h⟩
  | setBlinking mode =>
    refine exec_writes_no_row fun f hf u => ?_
    obtain rfl | ⟨-, rfl⟩ : f = writeBlink (modeOf mode) ∨ s.isOn = true ∧ f = writeIsOn true := by
      simpa [bodyOf, setBlinkingBody, onBody, sendDisplayOn] using hf
    all_goals rfl
  | on =>
    refine exec_writes_no_row fun f hf u => ?_
    obtain rfl : f = writeIsOn true := by simpa [bodyOf, onBody, sendDisplayOn] using hf
    rfl
  | off =>
    refine exec_writes_no_row fun f hf u => ?_
    obtain rfl : f = writeIsOn false := by simpa [bodyOf, offBody, sendDisplayOff] using hf
    rfl
  | setBrightness level =>
    exact exec_writes_no_row fun f hf => by simp [bodyOf, setBrightnessBody, sendBrightness] at hf
  | _ => exact exec_writes_no_row fun f hf => by simp [bodyOf] at hf

/-! ## The control registers (R13 to R18) -/

theorem bodyOf_write_keeps_inputs {i : Instr} {s₀ : State} {f : State → State}
    (hf : .write f ∈ bodyOf i s₀) : ∀ s, (f s).inputs = s.inputs :=
  bodyOf_writes i s₀ (P := fun f => ∀ s, (f s).inputs = s.inputs) (fun _ _ _ => rfl) (fun _ _ => rfl)
    (fun _ _ => rfl) (fun _ _ => rfl) (fun _ _ => rfl) (fun _ _ => rfl) f hf

/-- The writes outside INIT: the frame buffer, IS_ON by ON, by OFF, or with the value it has (SET_BLINKING runs the
body of ON only with IS_ON = 1, R143), and BLINK by SET_BLINKING. -/
theorem bodyOf_write_cases {i : Instr} {s : State} {f : State → State} (hi : isInit i = false)
    (hf : .write f ∈ bodyOf i s) :
    (∃ g : State → Buffer, f = fun u => writeRows (g u) u) ∨
    (∃ v, f = writeIsOn v ∧ (i = .on ∨ i = .off ∨ v = s.isOn)) ∨
    ∃ mode, i = .setBlinking mode ∧ f = writeBlink (modeOf mode) := by
  cases i <;>
    simp [bodyOf, onBody, offBody, setBrightnessBody, setBlinkingBody, setBody, clearBody, setRowBody,
      clearRowBody, setColumnBody, clearColumnBody, setPixelBody, clearPixelBody, sendBrightness,
      sendFull, sendDisplayOn, sendDisplayOff, sendRow] at hf
  case init => simp [isInit] at hi
  case setBlinking mode =>
    obtain rfl | ⟨hon, rfl⟩ := hf
    · exact .inr (.inr ⟨mode, rfl, rfl⟩)
    · exact .inr (.inl ⟨true, rfl, .inr (.inr hon.symm)⟩)
  case on => exact .inr (.inl ⟨true, hf, .inl rfl⟩)
  case off => exact .inr (.inl ⟨false, hf, .inr (.inl rfl)⟩)
  case setRow row byte => exact .inl ⟨fun u => u.fb.set (index row) byte, hf⟩
  case clearRow row => exact .inl ⟨fun u => u.fb.set (index row) 0x00, hf⟩
  case setPixel row column =>
    exact .inl ⟨fun u => u.fb.set (index row) (setbit (readRow (index row) u) (index column)), hf⟩
  case clearPixel row column =>
    exact .inl ⟨fun u => u.fb.set (index row) (clrbit (readRow (index row) u) (index column)), hf⟩
  all_goals exact .inl ⟨_, hf⟩

/-- What the registers of `r` have kept of the state `s` in which `i` was run. -/
structure KeepsControl (i : Instr) (s : State) (r : Registers) : Prop where
  addr_inited : isInit i = false → r.addr = s.addr ∧ r.inited = s.inited
  blink : isInit i = false → (∀ mode, i ≠ .setBlinking mode) → r.blink = s.blink
  isOn : isInit i = false → i ≠ .on → i ≠ .off → r.isOn = s.isOn
  request : r.reqCw = s.reqCw ∧ r.reqP = s.reqP
  inputs : r.inputs = s.inputs

theorem bodyOf_write_keeps_control {i : Instr} {s u : State} {f : State → State}
    (hf : .write f ∈ bodyOf i s) (hu : KeepsControl i s u.registers) :
    KeepsControl i s (f u).registers := by
  obtain ⟨-, hcw, hp, -⟩ := bodyOf_write_keeps_request hf u
  have hrequest := And.intro (hcw.trans hu.request.1) (hp.trans hu.request.2)
  have hinputs := (bodyOf_write_keeps_inputs hf u).trans hu.inputs
  cases hi : isInit i with
  | true => exact ⟨by simp [hi], by simp [hi], by simp [hi], hrequest, hinputs⟩
  | false =>
    obtain ⟨g, rfl⟩ | ⟨v, rfl, hv⟩ | ⟨mode, rfl, rfl⟩ := bodyOf_write_cases hi hf
    · exact ⟨hu.addr_inited, hu.blink, hu.isOn, hrequest, hinputs⟩
    · refine ⟨hu.addr_inited, hu.blink, fun _ hon hoff => ?_, hrequest, hinputs⟩
      exact (hv.resolve_left hon).resolve_left hoff
    · exact ⟨hu.addr_inited, fun _ h => absurd rfl (h mode), hu.isOn, hrequest, hinputs⟩

/-- Settles O45: only the writes of the body touch the registers, and each of them keeps the rest. -/
theorem controlRegisterWriters : Obligations.ControlRegisterWriters := by
  intro i s
  obtain ⟨t, ht, h⟩ := exec_keeps_registers (i := i) (Q := KeepsControl i s)
    ⟨fun _ => ⟨rfl, rfl⟩, fun _ _ => rfl, fun _ _ _ => rfl, ⟨rfl, rfl⟩, rfl⟩
    (fun _ _ hf _ hu => bodyOf_write_keeps_control hf hu)
  exact ⟨t, ht, h.addr_inited, h.blink, h.isOn, h.request.1, h.request.2, h.inputs⟩

end Sys2Proof.Machine
end

section
/-! What a trace says was last sent, and where the records of the last INIT begin (10_state R20, R21). -/

namespace Sys2Proof.Machine

/-! ## Records since the last INIT -/

theorem sinceInit_cons (r : TxRecord) (rest : List TxRecord) :
    sinceInit (r :: rest) =
      if sinceInit rest = [] then if r.msg = [0x21] then r :: rest else [] else sinceInit rest := by
  cases h : sinceInit rest <;> simp [sinceInit, h]

theorem sinceInit_eq_nil {tx : List TxRecord} : sinceInit tx = [] ↔ ¬∃ r ∈ tx, r.msg = [0x21] := by
  induction tx with
  | nil => simp [sinceInit]
  | cons r rest ih =>
    rw [sinceInit_cons, List.exists_mem_cons_iff, not_or, ← ih]
    by_cases hrest : sinceInit rest = []
    · by_cases hr : r.msg = [0x21] <;> simp [hrest, hr]
    · simp [hrest]

/-- An oscillator-on message begins the records anew, any other is one more of them. -/
theorem sinceInit_concat (tx : List TxRecord) (r : TxRecord) :
    sinceInit (tx ++ [r]) =
      if r.msg = [0x21] then [r] else if sinceInit tx = [] then [] else sinceInit tx ++ [r] := by
  induction tx with
  | nil => simp [sinceInit]
  | cons x rest ih =>
    rw [List.cons_append, sinceInit_cons, sinceInit_cons, ih]
    split_ifs <;> simp_all

/-- Once an INIT has begun, the last record counts. -/
theorem mem_sinceInit_concat {tx : List TxRecord} (h : ∃ r ∈ tx, r.msg = [0x21]) (r : TxRecord) :
    r ∈ sinceInit (tx ++ [r]) := by
  have hne : sinceInit tx ≠ [] := fun hnil => sinceInit_eq_nil.mp hnil h
  rw [sinceInit_concat]
  split_ifs <;> simp

/-- A message other than oscillator-on leaves the earlier records counted. -/
theorem mem_sinceInit_concat_of_mem {tx : List TxRecord} {r r' : TxRecord} (hr : r.msg ≠ [0x21])
    (h : r' ∈ sinceInit tx) : r' ∈ sinceInit (tx ++ [r]) := by
  rw [sinceInit_concat, if_neg hr, if_neg (List.ne_nil_of_mem h)]
  exact List.mem_append_left _ h

/-! ## What a message carries -/

theorem lastSent_concat {α : Type} (carried : Message → Option α) (tx : List TxRecord) (r : TxRecord) :
    lastSent carried (tx ++ [r]) = (carried r.msg).or (lastSent carried tx) := by
  cases h : carried r.msg <;> simp [lastSent, h]

theorem brightnessOf_brightness (l : BitVec 4) : brightnessOf [brightnessByte l] = some l := by
  revert l
  decide

theorem brightnessOf_displayOn (m : BitVec 2) : brightnessOf [displayOnByte m] = none := by
  revert m
  decide

theorem displayOf_brightness (l : BitVec 4) : displayOf [brightnessByte l] = none := by
  revert l
  decide

theorem displayOf_displayOn (m : BitVec 2) : displayOf [displayOnByte m] = some (displayOnByte m) := by
  revert m
  decide

theorem rowAddr_rowBits_eq_iff (r i : Fin 8) : rowAddr (rowBits r) = BitVec.ofNat 8 (2 * i.val) ↔ i = r := by
  revert r i
  decide

theorem rowOf_command (i : Fin 8) (b : Byte) : rowOf i [b] = none := rfl

theorem rowOf_row (i r : Fin 8) (w : Byte) :
    rowOf i [rowAddr (rowBits r), w] = if i = r then some w else none := by
  simp only [rowOf, rowAddr_rowBits_eq_iff]

/-- The wire byte of row i is at index 2i + 1 of a full write (R64). -/
theorem fullBytes_odd (w : Buffer) (i : Fin 8) : (fullBytes w)[2 * i.val + 1]? = some w[i] := by
  fin_cases i <;> rfl

theorem rowOf_full (i : Fin 8) (w : Buffer) : rowOf i (fullBytes w) = some w[i] :=
  fullBytes_odd w i

/-- After a full write the RAM holds the wire byte of row i at address 2i (R44). -/
theorem Memory.read_full (ram : Memory) (w : Buffer) (i : Fin 8) :
    (ram.writeFrom 0 (fullBytes w).tail).read (2 * i.val) = some w[i] := by
  have hi : 2 * i.val < (fullBytes w).tail.length := by simp [fullBytes]; omega
  have hread := Memory.read_writeFrom_inside _ ram 0 _ hi
  rw [Nat.zero_add, ← List.getElem?_eq_getElem, List.getElem?_tail, fullBytes_odd] at hread
  exact hread

end Sys2Proof.Machine
end

section
/-! The agreement of block, trace and device that the shadow invariant speaks of (10_state R20, 20_memory R45), and
what each message does to it. -/

namespace Sys2Proof.Machine

theorem rotl8_rotr8 (b : Byte) : rotl8 (rotr8 b) = b := by
  simp only [rotl8, rotr8]
  ext k hk
  interval_cases k <;> simp

/-- A block with these registers, a device and a trace agree: `MirrorsDevice` and `ShadowMatches`, row by row and
field by field. -/
structure Agrees (fb : Buffer) (isOn : Bool) (blink : BitVec 2) (d : Device) (tx : List TxRecord) : Prop where
  ram : ∀ i : Fin 8, d.ram.read (2 * i.val) = some (rotr8 fb[i])
  rows : ∀ i : Fin 8, lastSent (rowOf i) tx = some (rotr8 fb[i])
  dispOn : d.dispOn = isOn
  dispBlink : isOn = true → d.dispBlink = blink
  display : lastSent displayOf tx = some (if isOn then displayOnByte blink else displayOffByte)
  osc : d.osc = true
  dim : lastSent brightnessOf tx = some d.dim

theorem agrees_iff {s : State} :
    Agrees s.fb s.isOn s.blink s.dev s.tx ↔ MirrorsDevice s ∧ ShadowMatches s := by
  constructor
  · rintro ⟨hram, hrows, hon, hblink, hdisplay, hosc, hdim⟩
    refine ⟨⟨hram, fun i => ?_, hon, hblink, hosc, hdim⟩, ?_, fun h => ?_, hrows⟩
    · simp [Device.pictureRow, hram, rotl8_rotr8]
    · rintro m ⟨h, rfl⟩
      rw [hdisplay, h]
      rfl
    · rw [hdisplay, h]
      rfl
  · rintro ⟨⟨hram, -, hon, hblink, hosc, hdim⟩, hdisplayOn, hdisplayOff, hrows⟩
    refine ⟨hram, hrows, hon, hblink, ?_, hosc, hdim⟩
    cases h : s.isOn with
    | true => exact hdisplayOn _ ⟨h, rfl⟩
    | false => exact hdisplayOff h

namespace Agrees

variable {fb : Buffer} {isOn : Bool} {blink : BitVec 2} {d : Device} {tx : List TxRecord}

/-- With the display off the blink mode is free (R144). -/
theorem blink_of_off (h : Agrees fb false blink d tx) (blink' : BitVec 2) : Agrees fb false blink' d tx :=
  ⟨h.ram, h.rows, h.dispOn, nofun, h.display, h.osc, h.dim⟩

theorem brightness (h : Agrees fb isOn blink d tx) (l : BitVec 4) (a : BusAddress) :
    Agrees fb isOn blink { d with dim := l } (tx ++ [⟨a, [brightnessByte l], .ok⟩]) where
  ram := h.ram
  rows i := (lastSent_concat ..).trans (h.rows i)
  dispOn := h.dispOn
  dispBlink := h.dispBlink
  display := by rw [lastSent_concat, displayOf_brightness]; exact h.display
  osc := h.osc
  dim := by rw [lastSent_concat, brightnessOf_brightness]; rfl

theorem displayOn (h : Agrees fb isOn blink d tx) (m : BitVec 2) (a : BusAddress) :
    Agrees fb true m { d with dispOn := true, dispBlink := m } (tx ++ [⟨a, [displayOnByte m], .ok⟩]) where
  ram := h.ram
  rows i := (lastSent_concat ..).trans (h.rows i)
  dispOn := rfl
  dispBlink _ := rfl
  display := by rw [lastSent_concat, displayOf_displayOn]; rfl
  osc := h.osc
  dim := by rw [lastSent_concat, brightnessOf_displayOn]; exact h.dim

theorem displayOff (h : Agrees fb isOn blink d tx) (a : BusAddress) :
    Agrees fb false blink { d with dispOn := false } (tx ++ [⟨a, [displayOffByte], .ok⟩]) where
  ram := h.ram
  rows i := (lastSent_concat ..).trans (h.rows i)
  dispOn := rfl
  dispBlink := nofun
  display := lastSent_concat ..
  osc := h.osc
  dim := (lastSent_concat ..).trans h.dim

theorem row (h : Agrees fb isOn blink d tx) (r : Fin 8) (v : Byte) (a : BusAddress) :
    Agrees (fb.set r v) isOn blink { d with ram := d.ram.write (2 * r.val) (rotr8 v) }
      (tx ++ [⟨a, [rowAddr (rowBits r), rotr8 v], .ok⟩]) where
  ram i := by
    by_cases hi : i = r
    · subst hi
      simp
    · have hval : r.val ≠ i.val := fun h => hi (Fin.ext h.symm)
      rw [Memory.read_write_other _ _ (by omega), h.ram]
      simp [Vector.getElem_set_ne r.isLt i.isLt hval]
  rows i := by
    rw [lastSent_concat, rowOf_row]
    by_cases hi : i = r
    · subst hi
      simp
    · have hval : r.val ≠ i.val := fun h => hi (Fin.ext h.symm)
      simp [hi, h.rows, Vector.getElem_set_ne r.isLt i.isLt hval]
  dispOn := h.dispOn
  dispBlink := h.dispBlink
  display := (lastSent_concat ..).trans h.display
  osc := h.osc
  dim := (lastSent_concat ..).trans h.dim

theorem full (h : Agrees fb isOn blink d tx) (f : Buffer) (a : BusAddress) :
    Agrees f isOn blink { d with ram := d.ram.writeFrom 0 (pack16 f).tail } (tx ++ [⟨a, pack16 f, .ok⟩]) where
  ram i := by simp [pack16, Memory.read_full]
  rows i := by simp [lastSent_concat, pack16, rowOf_full]
  dispOn := h.dispOn
  dispBlink := h.dispBlink
  display := (lastSent_concat ..).trans h.display
  osc := h.osc
  dim := (lastSent_concat ..).trans h.dim

/-- The four messages of INIT bring device and trace to agree, whatever they were before (R100). -/
theorem init (d : Device) (tx : List TxRecord) (f : Buffer) (l : BitVec 4) (m : BitVec 2) (a : BusAddress) :
    Agrees f true m
      { osc := true, dispOn := true, dispBlink := m, dim := l,
        ram := d.ram.writeFrom 0 (pack16 f).tail }
      (tx ++ [⟨a, [oscByte], .ok⟩] ++ [⟨a, [brightnessByte l], .ok⟩] ++ [⟨a, pack16 f, .ok⟩] ++
        [⟨a, [displayOnByte m], .ok⟩]) where
  ram i := by simp [pack16, Memory.read_full]
  rows i := by
    rw [lastSent_concat, rowOf_command, lastSent_concat, pack16, rowOf_full]
    simp
  dispOn := rfl
  dispBlink _ := rfl
  display := by rw [lastSent_concat, displayOf_displayOn]; rfl
  osc := rfl
  dim := by
    rw [lastSent_concat, brightnessOf_displayOn, lastSent_concat, lastSent_concat, brightnessOf_brightness]
    rfl

end Agrees

end Sys2Proof.Machine
end

section
/-! The shadow invariant through a request's body: at every Send, and at the end (10_state R20, 20_memory R45). -/

namespace Sys2Proof.Machine

/-- A block that waits at a Send keeps the shadow invariant, and so does one whose Send failed; what is left to show is
the block whose Send was answered ok. -/
theorem shadowInvariant_send {m : State → Message} {rest : List Micro} {u : State} (hport : u.tPort = none)
    (hosc : u.inited = true → ∃ r ∈ u.tx, r.msg = [0x21])
    (hok : ShadowInvariant (runBody rest (u.sendOk (m u)).advance)) :
    ShadowInvariant (runBody (.send m :: rest) u) := by
  rcases hr : u.reply with (_ | kind) | _
  · rw [runBody_send_ok hr]
    exact hok
  · rw [runBody_send_err hr]
    refine ⟨fun _ => hport, fun hi => ?_, fun hi _ hall => ?_⟩
    · obtain ⟨r, hmem, h⟩ := hosc hi
      exact ⟨r, List.mem_append_left _ hmem, h⟩
    · exact absurd (hall _ (mem_sinceInit_concat (hosc hi) _)) nofun
  · rw [runBody_send_silent hr]
    exact ⟨nofun, hosc, nofun⟩

/-- INIT establishes the shadow invariant: INITED is 0 at each of its Sends (R100, R101), and behind the last one
block, trace and device agree. -/
theorem shadowInvariant_init {s : State} (hport : s.tPort = none) (b : Byte) (a : BusAddress) :
    ShadowInvariant (runBody (initBody b a) s) := by
  rw [initBody, runBody_write]
  refine shadowInvariant_send hport nofun (shadowInvariant_send hport nofun ?_)
  rw [runBody_write]
  refine shadowInvariant_send hport nofun ?_
  rw [runBody_write]
  refine shadowInvariant_send hport nofun ?_
  rw [runBody_write, runBody_nil]
  refine ⟨fun _ => hport, fun _ => ⟨⟨a, [oscByte], .ok⟩, by simp, rfl⟩, fun _ _ _ => agrees_iff.mp ?_⟩
  have hagrees := Agrees.init s.dev s.tx clearRows (levelOf b) 0 a
  simpa [Device.receive_osc, Device.receive_brightness, pack16, Device.receive_full,
    Device.receive_displayOn] using hagrees

/-- What the shadow invariant says of an idle initialised block, and still says once a request is accepted. -/
structure InStep (s : State) : Prop where
  inited : s.inited = true
  port : s.tPort = none
  osc : ∃ r ∈ s.tx, r.msg = [0x21]
  agrees : (∀ r ∈ sinceInit s.tx, r.answer = .ok) → Agrees s.fb s.isOn s.blink s.dev s.tx

namespace InStep

variable {s : State}

theorem respond (h : InStep s) (r : Response) : InStep (s.respond r) := ⟨h.inited, h.port, h.osc, h.agrees⟩

theorem shadowInvariant (h : InStep s) : ShadowInvariant s :=
  ⟨fun _ => h.port, fun _ => h.osc, fun _ _ hok => agrees_iff.mp (h.agrees hok)⟩

/-- A body from its last Send on, in the state `u` that its writes have made of `s`. -/
theorem last_send (h : InStep s) {u : State} {m : State → Message} {d : Device}
    (hport : u.tPort = s.tPort) (htx : u.tx = s.tx)
    (hm : m u ≠ [0x21]) (hdev : u.dev.receive (m u) = some d)
    (hagrees : Agrees s.fb s.isOn s.blink s.dev s.tx →
      Agrees u.fb u.isOn u.blink d (s.tx ++ [⟨u.addr, m u, .ok⟩])) :
    ShadowInvariant (runBody [.send m] u) := by
  have hport := hport.trans h.port
  have hosc : ∃ r ∈ u.tx, r.msg = [0x21] := htx ▸ h.osc
  refine shadowInvariant_send hport (fun _ => hosc) ?_
  obtain ⟨r, hmem, hr⟩ := hosc
  refine ⟨fun _ => hport, fun _ => ⟨r, List.mem_append_left _ hmem, hr⟩, fun _ _ hok => agrees_iff.mp ?_⟩
  have hbefore : ∀ r ∈ sinceInit s.tx, r.answer = .ok := fun r hr =>
    hok r (mem_sinceInit_concat_of_mem hm (htx ▸ hr))
  simpa [runBody_nil, hdev, htx] using hagrees (h.agrees hbefore)

theorem row_operation (h : InStep s) {r : Fin 8} {v : Byte} {f : State → State} {m : State → Message}
    (hf : f s = writeRow r v s) (hm : m (writeRow r v s).advance = [rowAddr (rowBits r), rotr8 v]) :
    ShadowInvariant (runBody [.write f, .send m] s) := by
  rw [runBody_write, hf]
  have hdev := Device.receive_row s.dev (rowBits r) (rotr8 v)
  rw [rowBits_toNat, ← hm] at hdev
  refine h.last_send rfl rfl (by simp [hm]) hdev fun hagrees => ?_
  rw [hm]
  exact hagrees.row r v s.addr

theorem full_operation (h : InStep s) {b : Buffer} {f : State → State} (hf : f s = writeRows b s) :
    ShadowInvariant (runBody [.write f, sendFull] s) := by
  rw [runBody_write, hf]
  exact h.last_send rfl rfl (by simp [pack16, fullBytes]) (Device.receive_full s.dev _)
    fun hagrees => hagrees.full b s.addr

/-- The body of ON, with whatever mode SET_BLINKING has stored before it. -/
theorem on_operation (h : InStep s) (mode : BitVec 2) (phase : BitVec 3) :
    ShadowInvariant (runBody onBody { s with blink := mode, phase := phase }) := by
  have hm : [displayOnByte mode] ≠ [0x21] := by revert mode; decide
  rw [onBody, runBody_write]
  exact h.last_send rfl rfl hm (Device.receive_displayOn s.dev mode)
    fun hagrees => hagrees.displayOn mode s.addr

theorem off_operation (h : InStep s) : ShadowInvariant (runBody offBody s) := by
  rw [offBody, runBody_write]
  exact h.last_send (m := fun _ => [displayOffByte]) rfl rfl (by decide) (Device.receive_displayOff s.dev)
    fun hagrees => hagrees.displayOff s.addr

theorem brightness_operation (h : InStep s) (level : Byte) :
    ShadowInvariant (runBody (setBrightnessBody level) s) := by
  have hm : ∀ l : BitVec 4, [brightnessByte l] ≠ [0x21] := by decide
  exact h.last_send rfl rfl (hm (levelOf level)) (Device.receive_brightness s.dev (levelOf level))
    fun hagrees => hagrees.brightness (levelOf level) s.addr

theorem blinking_operation (h : InStep s) (mode : Byte) :
    ShadowInvariant (runBody (setBlinkingBody mode s.isOn) s) := by
  rw [setBlinkingBody, runBody_write]
  cases hon : s.isOn with
  | true => exact h.on_operation (modeOf mode) (s.phase + 1)
  | false =>
    refine shadowInvariant ⟨h.inited, h.port, h.osc, fun hok => ?_⟩
    have hagrees := h.agrees hok
    rw [hon] at hagrees
    simpa [runBody_nil, hon] using hagrees.blink_of_off (modeOf mode)

/-- Every request but INIT, run to its end, by what it writes and sends. -/
theorem shadowInvariant_body (h : InStep s) {i : Instr} (hi : isInit i = false) :
    ShadowInvariant (runBody (bodyOf i s) s) := by
  have hrow (r : Fin 8) (v : Byte) : rowmsg (writeRow r v s).advance.fb r = [rowAddr (rowBits r), rotr8 v] := by
    simp [rowmsg]
  have hdark : rotr8 0x00 = 0x00 := by decide
  cases i with
  | init brightness address => simp [isInit] at hi
  | on => exact h.on_operation s.blink s.phase
  | off => exact h.off_operation
  | setBrightness level => exact h.brightness_operation level
  | setBlinking mode => exact h.blinking_operation mode
  | set bitmap => exact h.full_operation rfl
  | clear => exact h.full_operation rfl
  | setColumn column byte => exact h.full_operation rfl
  | clearColumn column => exact h.full_operation rfl
  | setRow row byte => exact h.row_operation rfl (hrow _ _)
  | clearRow row => exact h.row_operation rfl (by rw [hdark])
  | setPixel row column => exact h.row_operation rfl (hrow _ _)
  | clearPixel row column => exact h.row_operation rfl (hrow _ _)
  | _ => exact (h.respond ⟨.ok, 0⟩).shadowInvariant

end InStep

theorem checkOf_none_inited {i : Instr} {s : State} (hi : isInit i = false) (h : checkOf i s = none) :
    s.inited = true := by
  cases hs : s.inited with
  | true => rfl
  | false => cases i <;> simp [isInit, checkOf, gateAndOperands_notInitialised hs] at hi h

/-- An idle initialised block with the shadow invariant is in step, and stays so through acceptance. -/
theorem inStep_accept {s : State} (hs : ShadowInvariant s) (hb : s.busy = false) (hi : s.inited = true)
    (cw : CommandWord) (p : Payload) : InStep (s.nextLines.accept cw p) := by
  obtain ⟨hport, hosc, hagree⟩ := hs
  exact ⟨hi, hport hb, hosc hi, fun hok => agrees_iff.mpr (hagree hi hb hok)⟩

theorem shadowInvariant_of_not_inited {s : State} (hport : s.tPort = none) (hi : s.inited = false) :
    ShadowInvariant s :=
  ⟨fun _ => hport, by simp [hi], by simp [hi]⟩

theorem State.resetBlock_shadowInvariant (s : State) : ShadowInvariant s.resetBlock := by
  obtain ⟨dev, replies, draws, h⟩ := s.resetBlock_eq
  rw [h]
  exact shadowInvariant_of_not_inited rfl rfl

/-- Settles O52, by what a step can be. The device's turn needs a message on the port of an idle block; a refusal and a
RESET send nothing; INIT establishes the invariant, and any other body runs only in an initialised block. -/
theorem stepKeepsShadowInvariant : Obligations.StepKeepsShadowInvariant := by
  intro s t hs hstep
  obtain ⟨hb, ⟨m, hm⟩, -⟩ | rfl | rfl | ⟨hb, hport, cw, p, ⟨e, rfl⟩ | ⟨i, hi, hcheck, rfl⟩⟩ := step_next hstep
  · simp [hs.1 hb] at hm
  · exact s.nextLines.resetBlock_shadowInvariant
  · exact hs
  · cases hinited : s.inited with
    | false => exact shadowInvariant_of_not_inited hport hinited
    | true => exact ((inStep_accept hs hb hinited cw p).respond (exnResponse e)).shadowInvariant
  · cases hinit : isInit i with
    | true =>
      obtain ⟨brightness, address, rfl⟩ : ∃ b a, i = .init b a := by
        cases i with
        | init b a => exact ⟨b, a, rfl⟩
        | _ => simp [isInit] at hinit
      exact shadowInvariant_init (s := s.nextLines.accept cw p) hport brightness address
    | false =>
      exact (inStep_accept hs hb (checkOf_none_inited hinit hcheck) cw p).shadowInvariant_body hinit

/-- Settles O53: the block is not initialised, so nothing is claimed of trace and device. -/
theorem resetMeetsTheInvariants : Obligations.ResetMeetsTheInvariants :=
  ⟨shadowInvariant_of_not_inited rfl rfl, Device.powerOn_ram_wf, nofun⟩

/-- What every step keeps, every run keeps. -/
theorem core_run_keeps {P : State → Prop} (hstep : ∀ s t, P s → step s = .next t → P t) (n : Nat) {s t : State}
    (hs : P s) (hrun : core.run n s = .next t) : P t := by
  induction n generalizing s with
  | zero => cases hrun; exact hs
  | succ k ih =>
    cases h : step s with
    | next u => exact ih (hstep s u hs h) (by simpa [Host.Core.run, core, h] using hrun)
    | fault e => simp [Host.Core.run, core, h] at hrun
    | refused e => simp [Host.Core.run, core, h] at hrun

/-- Settles O55: the shadow invariant holds at reset whatever is to come, and every step keeps it. -/
theorem shadowStateIsWhatWasSent : Obligations.ShadowStateIsWhatWasSent := by
  intro inputs replies n t hrun hok hi hb
  have hreset : ShadowInvariant { State.reset with inputs := inputs, replies := replies } :=
    shadowInvariant_of_not_inited rfl rfl
  obtain ⟨-, -, hagree⟩ := core_run_keeps stepKeepsShadowInvariant n hreset hrun
  exact (hagree hi hb hok).2

end Sys2Proof.Machine
end

section
/-! What a request sends (20_memory R31, R39, 00_scope R8): the shape of every message, the order of the answers, and
the response to a failed Send. -/

namespace Sys2Proof.Machine

/-! ## The six shapes -/

theorem sixShapes_osc : SixShapes [oscByte] := .inl rfl

theorem sixShapes_brightness (l : BitVec 4) : SixShapes [brightnessByte l] := .inr (.inl ⟨l, rfl⟩)

theorem sixShapes_displayOn (m : BitVec 2) : SixShapes [displayOnByte m] := .inr (.inr (.inl ⟨m, rfl⟩))

theorem sixShapes_displayOff : SixShapes [displayOffByte] := .inr (.inr (.inr (.inl rfl)))

theorem rowAddr_rowBits (r : Fin 8) : rowAddr (rowBits r) = BitVec.ofNat 8 (2 * r.val) :=
  (rowAddr_rowBits_eq_iff r r).mpr rfl

theorem sixShapes_row (r : Fin 8) (w : Byte) : SixShapes [rowAddr (rowBits r), w] :=
  .inr (.inr (.inr (.inr (.inl ⟨r, w, by rw [rowAddr_rowBits]⟩))))

theorem sixShapes_full (w : Buffer) : SixShapes (fullBytes w) := .inr (.inr (.inr (.inr (.inr ⟨w, rfl⟩))))

/-- Every message that a body builds has one of the six shapes, in whatever state it is built. -/
theorem bodyOf_send_sixShapes {i : Instr} {s₀ : State} {m : State → Message} (hm : .send m ∈ bodyOf i s₀)
    (s : State) : SixShapes (m s) := by
  cases i <;>
    simp [bodyOf, initBody, onBody, offBody, setBrightnessBody, setBlinkingBody, setBody, clearBody,
      setRowBody, clearRowBody, setColumnBody, clearColumnBody, setPixelBody, clearPixelBody, sendOsc,
      sendBrightness, sendFull, sendDisplayOn, sendDisplayOff, sendRow] at hm
  case init =>
    obtain rfl | rfl | rfl | rfl := hm
    · exact sixShapes_osc
    · exact sixShapes_brightness _
    · exact sixShapes_full _
    · exact sixShapes_displayOn _
  case on => subst hm; exact sixShapes_displayOn _
  case off => subst hm; exact sixShapes_displayOff
  case setBrightness => subst hm; exact sixShapes_brightness _
  case setBlinking => obtain ⟨-, rfl⟩ := hm; exact sixShapes_displayOn _
  case set | clear | setColumn | clearColumn => subst hm; exact sixShapes_full _
  case setRow | clearRow | setPixel | clearPixel => subst hm; exact sixShapes_row _ _

/-! ## The records of a body -/

@[simp] def Micro.isSend : Micro → Bool
  | .write _ => false
  | .send _ => true

/-- From `s` to `t` the block has sent the messages of `sent`, to its bus address, each answered ok but the last, whose
failure is the response. -/
structure Sent (s t : State) (sent : List TxRecord) : Prop where
  tx : t.tx = s.tx ++ sent
  shapes : ∀ r ∈ sent, SixShapes r.msg
  addr : ∀ r ∈ sent, r.addr = t.addr
  early : ∀ r ∈ sent.dropLast, r.answer = .ok
  response : ∀ kind, (∃ r ∈ sent, r.answer = .err kind) ↔
    t.rsp = s.rsp ++ [⟨.transportError, kindCode kind⟩]

theorem kindCode_inj {k k' : TransportKind} : kindCode k = kindCode k' ↔ k = k' := by
  cases k <;> cases k' <;> decide

namespace Sent

variable {s t u : State} {sent : List TxRecord}

/-- Nothing is sent where the response, if there is one, is no transport error. -/
theorem nil (htx : t.tx = s.tx) (hrsp : ∀ kind, t.rsp ≠ s.rsp ++ [⟨.transportError, kindCode kind⟩]) :
    Sent s t [] :=
  ⟨by simp [htx], nofun, nofun, nofun, fun kind => by simp [hrsp kind]⟩

theorem respond_nil {r : Response} (hr : r.status ≠ .transportError) : Sent s (s.respond r) [] :=
  nil rfl fun _ h => by simp at h; simp [h] at hr

theorem unanswered (htx : t.tx = s.tx) (hrsp : t.rsp = s.rsp) : Sent s t [] :=
  nil htx fun _ => by simp [hrsp]

/-- What is sent after a step that leaves both traces alone. -/
theorem of_eq (h : Sent u t sent) (htx : u.tx = s.tx) (hrsp : u.rsp = s.rsp) : Sent s t sent :=
  ⟨htx ▸ h.tx, h.shapes, h.addr, h.early, hrsp ▸ h.response⟩

/-- A Send answered ok comes before what is sent after it. -/
theorem cons_ok {m : Message} (hm : SixShapes m) (h : Sent (s.sendOk m).advance t sent) (haddr : t.addr = s.addr) :
    Sent s t (⟨s.addr, m, .ok⟩ :: sent) where
  tx := by simp [h.tx]
  shapes := List.forall_mem_cons.mpr ⟨hm, h.shapes⟩
  addr := List.forall_mem_cons.mpr ⟨haddr.symm, h.addr⟩
  early r hr := by
    cases sent with
    | nil => simp at hr
    | cons r' rest =>
      obtain rfl | hr : r = ⟨s.addr, m, .ok⟩ ∨ r ∈ (r' :: rest).dropLast := by simpa using hr
      · rfl
      · exact h.early r hr
  response kind := by simpa using h.response kind

/-- A Send answered err is the last, and its kind is the response. -/
theorem raised {m : Message} (hm : SixShapes m) (k : TransportKind) :
    Sent s ((s.sendErr m k).raise (.transportError k)) [⟨s.addr, m, .err k⟩] where
  tx := rfl
  shapes := by simpa using hm
  addr := by simp
  early := nofun
  response kind := by simp [exnResponse, kindCode_inj]

end Sent

/-- A body that sends messages of the six shapes and whose writes leave ADDR and the traces alone. -/
theorem runBody_sent {body : List Micro} (hsend : ∀ m, .send m ∈ body → ∀ s, SixShapes (m s))
    (hwrite : ∀ f, .write f ∈ body → ∀ s : State, (f s).addr = s.addr ∧ (f s).tx = s.tx ∧ (f s).rsp = s.rsp)
    (s : State) :
    (runBody body s).addr = s.addr ∧
      ∃ sent, sent.length ≤ body.countP Micro.isSend ∧ Sent s (runBody body s) sent := by
  induction body generalizing s with
  | nil => exact ⟨rfl, [], Nat.zero_le _, Sent.respond_nil (by simp)⟩
  | cons micro rest ih =>
    have ih := ih (fun m hm => hsend m (List.mem_cons_of_mem _ hm))
      (fun f hf => hwrite f (List.mem_cons_of_mem _ hf))
    cases micro with
    | write f =>
      obtain ⟨haddr, htx, hrsp⟩ := hwrite f List.mem_cons_self s
      obtain ⟨ha, sent, hlen, h⟩ := ih (f s).advance
      exact ⟨ha.trans haddr, sent, by simpa [List.countP_cons] using hlen, h.of_eq htx hrsp⟩
    | send m =>
      have hm := hsend m List.mem_cons_self s
      rcases hr : s.reply with (_ | kind) | _
      · obtain ⟨ha, sent, hlen, h⟩ := ih (s.sendOk (m s)).advance
        rw [runBody_send_ok hr]
        exact ⟨ha, _, by simpa [List.countP_cons] using hlen, h.cons_ok hm ha⟩
      · rw [runBody_send_err hr]
        exact ⟨rfl, _, by simp [List.countP_cons], Sent.raised hm kind⟩
      · rw [runBody_send_silent hr]
        exact ⟨rfl, [], Nat.zero_le _, Sent.unanswered rfl rfl⟩

theorem bodyOf_write_keeps_traces {i : Instr} {s₀ : State} {f : State → State}
    (hf : .write f ∈ bodyOf i s₀) : ∀ s, (f s).tx = s.tx ∧ (f s).rsp = s.rsp :=
  bodyOf_writes i s₀ (P := fun f => ∀ s, (f s).tx = s.tx ∧ (f s).rsp = s.rsp)
    (fun _ _ _ => ⟨rfl, rfl⟩) (fun _ _ => ⟨rfl, rfl⟩) (fun _ _ => ⟨rfl, rfl⟩) (fun _ _ => ⟨rfl, rfl⟩)
    (fun _ _ => ⟨rfl, rfl⟩) (fun _ _ => ⟨rfl, rfl⟩) f hf

theorem bodyOf_write_keeps_addr {i : Instr} {s₀ : State} {f : State → State} (hi : isInit i = false)
    (hf : .write f ∈ bodyOf i s₀) (s : State) : (f s).addr = s.addr := by
  obtain ⟨g, rfl⟩ | ⟨v, rfl, -⟩ | ⟨mode, -, rfl⟩ := bodyOf_write_cases hi hf <;> rfl

theorem bodyOf_countP_isSend (i : Instr) (s : State) : (bodyOf i s).countP Micro.isSend ≤ 4 := by
  cases i with
  | setBlinking mode =>
    cases hon : s.isOn <;> simp [bodyOf, setBlinkingBody, onBody, sendDisplayOn, List.countP_cons, hon]
  | _ =>
    simp [bodyOf, initBody, onBody, offBody, setBrightnessBody, setBody, clearBody, setRowBody,
      clearRowBody, setColumnBody, clearColumnBody, setPixelBody, clearPixelBody, sendOsc, sendBrightness,
      sendFull, sendDisplayOn, sendDisplayOff, sendRow, List.countP_cons]

/-- The writes of INIT behind the creation step leave ADDR alone (R100). -/
theorem initBody_tail_write_keeps_addr {b : Byte} {a : BusAddress} {f : State → State}
    (hf : .write f ∈ (initBody b a).tail) (s : State) : (f s).addr = s.addr := by
  obtain rfl | rfl | rfl : f = writeRows clearRows ∨ f = writeIsOn true ∨ f = writeInited true := by
    simpa [initBody, sendOsc, sendBrightness, sendFull, sendDisplayOn] using hf
  all_goals rfl

/-- A body of a request sends at most four messages; INIT sends its own behind the creation step, to the new address. -/
theorem runBody_bodyOf_sent (i : Instr) (s : State) :
    ∃ sent, sent.length ≤ 4 ∧ Sent s (runBody (bodyOf i s) s) sent := by
  have hsend := fun m (hm : Micro.send m ∈ bodyOf i s) => bodyOf_send_sixShapes hm
  have htraces := fun f (hf : Micro.write f ∈ bodyOf i s) => bodyOf_write_keeps_traces hf
  have hcount := bodyOf_countP_isSend i s
  cases hi : isInit i with
  | false =>
    obtain ⟨-, sent, hlen, h⟩ :=
      runBody_sent hsend (fun f hf u => ⟨bodyOf_write_keeps_addr hi hf u, htraces f hf u⟩) s
    exact ⟨sent, hlen.trans hcount, h⟩
  | true =>
    cases i with
    | init b a =>
      obtain ⟨-, sent, hlen, h⟩ :=
        runBody_sent (body := (initBody b a).tail) (fun m hm => hsend m (List.mem_of_mem_tail hm))
          (fun f hf u => ⟨initBody_tail_write_keeps_addr hf u, htraces f (List.mem_of_mem_tail hf) u⟩)
          (writeCreation a s).advance
      exact ⟨sent, hlen.trans hcount, h.of_eq rfl rfl⟩
    | _ => simp [isInit] at hi

/-- Settles O50: TX grows only by what a request's body sends, and every message of a body has one of the shapes. -/
theorem stepKeepsMessageShapes : Obligations.StepKeepsMessageShapes := by
  intro s t hs hstep
  obtain ⟨-, -, d, rfl, -⟩ | rfl | rfl | ⟨-, -, cw, p, ⟨e, rfl⟩ | ⟨i, -, -, rfl⟩⟩ := step_next hstep
  · exact hs
  · obtain ⟨dev, replies, draws, h⟩ := s.nextLines.resetBlock_eq
    rw [h]
    exact nofun
  · exact hs
  · exact hs
  · obtain ⟨sent, -, h⟩ := runBody_bodyOf_sent i (s.nextLines.accept cw p)
    rw [h.tx]
    exact List.forall_mem_append.mpr ⟨hs, h.shapes⟩

theorem gateAndOperands_ne_transportError (s : State) (bad : Option Which) (k : TransportKind) :
    gateAndOperands s bad ≠ some (.transportError k) := by
  cases bad <;> cases h : s.inited <;> simp [gateAndOperands, h]

/-- A check before the body raises no transport error. -/
theorem checkOf_ne_transportError (i : Instr) (s : State) (k : TransportKind) :
    checkOf i s ≠ some (.transportError k) := by
  cases i <;> simp [checkOf, initCheck, gateAndOperands_ne_transportError]

theorem exnResponse_status_eq_transportError {e : Exn} :
    (exnResponse e).status = .transportError ↔ ∃ k, e = .transportError k := by
  cases e with
  | invalidArgument which => cases which <;> simp [exnResponse]
  | _ => simp [exnResponse]

/-- Settles O47: a wire message and a refused request send nothing, and a body sends as `runBody_sent` says. -/
theorem sendsOfAnOperation : Obligations.SendsOfAnOperation := by
  intro i s
  suffices h : ∃ t sent, exec i s = .next t ∧ sent.length ≤ 4 ∧ Sent s t sent by
    obtain ⟨t, sent, ht, hlen, h⟩ := h
    exact ⟨t, sent, ht, h.tx, hlen, fun r hr => ⟨h.shapes r hr, h.addr r hr⟩, h.early, h.response⟩
  cases hi : i.isRequest with
  | false =>
    obtain ⟨m, hm⟩ := exec_wire hi s
    exact ⟨_, [], hm, Nat.zero_le _, Sent.unanswered rfl rfl⟩
  | true =>
    rw [exec_request hi]
    cases hc : checkOf i s with
    | some e =>
      refine ⟨_, [], rfl, Nat.zero_le _, Sent.respond_nil fun he => ?_⟩
      obtain ⟨k, rfl⟩ := exnResponse_status_eq_transportError.mp he
      exact checkOf_ne_transportError i s k hc
    | none =>
      obtain ⟨sent, hlen, h⟩ := runBody_bodyOf_sent i s
      exact ⟨_, sent, rfl, hlen, h⟩

end Sys2Proof.Machine
end

section
/-! The device's turn and what the device does with each message of the table (20_memory R44). -/

namespace Sys2Proof.Machine

/-- A message on the port of an idle block gives the device the turn (log 13). -/
theorem step_idle_message {s : State} {m : Message} (hb : s.busy = false) (ht : s.tPort = some m) :
    step s = s.deviceTurn m := by
  simp only [step, State.turn, hb, ht]

theorem State.deviceTurn_decoded {m : Message} {i : Instr} (hi : decodeWire m = .ok i) (s : State) :
    s.deviceTurn m = exec i { s with tPort := none } := by
  simp only [State.deviceTurn, hi]

/-- Settles O14: the turn is the device's, and what it executes is the decoded message. -/
theorem stepRunsTheDecodedWireMessage : Obligations.StepRunsTheDecodedWireMessage := by
  intro s m i hb ht hi
  rw [step_idle_message hb ht, State.deviceTurn_decoded hi]

/-- The outcome of a wire message that an arm of the receiver covers. -/
theorem next_deliver {s : State} {m : Message} {d : Device} (h : s.dev.receive m = some d) :
    (.next (s.deliver m) : Host.Outcome State Fault Refusal) = .next { s with dev := d } := by
  simp only [State.deliver, h, Option.getD_some]

/-- Settles O38: each command is its one byte, taken by the receiver. -/
theorem deviceExecutesCommands : Obligations.DeviceExecutesCommands := by
  intro s level mode
  exact ⟨next_deliver (Device.receive_osc s.dev), next_deliver (Device.receive_brightness s.dev level),
    next_deliver (Device.receive_displayOn s.dev mode), next_deliver (Device.receive_displayOff s.dev)⟩

theorem fullBytes_tail_length (w : Buffer) : (fullBytes w).tail.length = 15 := rfl

/-- The filler behind the wire byte of row k is at index 2k + 2 of a full write (R64). -/
theorem fullBytes_filler (w : Buffer) {k : Nat} (hk : k < 7) : (fullBytes w)[2 * k + 2]? = some 0x00 := by
  interval_cases k <;> rfl

/-- After a full write the odd addresses below 0x0E hold the filler (R44, log 19). -/
theorem Memory.read_full_odd (ram : Memory) (w : Buffer) {k : Nat} (hk : k < 7) :
    (ram.writeFrom 0 (fullBytes w).tail).read (2 * k + 1) = some 0x00 := by
  have hlt : 2 * k + 1 < (fullBytes w).tail.length := by rw [fullBytes_tail_length]; omega
  have hread := Memory.read_writeFrom_inside _ ram 0 _ hlt
  rw [Nat.zero_add, ← List.getElem?_eq_getElem, List.getElem?_tail, fullBytes_filler w hk] at hread
  exact hread

/-- A full write stops below 0x0F. -/
theorem Memory.read_full_above (ram : Memory) (w : Buffer) {a : Nat} (ha : 15 ≤ a) :
    (ram.writeFrom 0 (fullBytes w).tail).read a = ram.read a :=
  Memory.read_writeFrom_above _ _ _ _ (by rw [fullBytes_tail_length]; omega)

/-- Settles O39, by the receiver's arm for each data message and what can be read after its writes. -/
theorem deviceExecutesWrites : Obligations.DeviceExecutesWrites := by
  intro s row wire w
  refine ⟨⟨s.dev.ram.write (2 * row.toNat) wire, ?_, ?_, ?_⟩,
    s.dev.ram.writeFrom 0 (fullBytes w).tail, ?_, ?_, ?_, ?_⟩
  · exact next_deliver (Device.receive_row s.dev row wire)
  · exact Memory.read_write_same _ _ _
  · exact fun a ha => Memory.read_write_other _ _ ha
  · exact next_deliver (Device.receive_full s.dev w)
  · exact Memory.read_full s.dev.ram w
  · exact fun k hk => Memory.read_full_odd s.dev.ram w hk
  · exact fun a ha => Memory.read_full_above s.dev.ram w ha

end Sys2Proof.Machine
end

section
/-! The operations of one message as the device sees them (20_memory R43, R44): what the message covers is as told or
anything, all else is kept. -/

namespace Sys2Proof.Machine

/-- A message that is received changes nothing but what it covers, as a failed one does (R44). -/
theorem Device.receive_sameOutside {d e : Device} {m : Message} (h : d.receive m = some e) :
    SameOutside m d e := by
  refine ⟨?_, fun level => ?_, fun mode => ?_, ?_, fun r w => ?_, fun w => ?_⟩ <;> rintro rfl
  · obtain rfl := Option.some.inj ((Device.receive_osc d).symm.trans h)
    rfl
  · obtain rfl := Option.some.inj ((Device.receive_brightness d level).symm.trans h)
    rfl
  · obtain rfl := Option.some.inj ((Device.receive_displayOn d mode).symm.trans h)
    rfl
  · obtain rfl := Option.some.inj ((Device.receive_displayOff d).symm.trans h)
    rfl
  · rw [← rowAddr_rowBits, Device.receive_row, rowBits_toNat] at h
    obtain rfl := Option.some.inj h
    exact ⟨rfl, fun a ha => Memory.read_write_other _ _ ha⟩
  · obtain rfl := Option.some.inj ((Device.receive_full d w).symm.trans h)
    exact ⟨rfl, fun a ha => Memory.read_full_above d.ram w ha⟩

theorem Device.receive_pack16 (d : Device) (f : Buffer) :
    d.receive (pack16 f) = some { d with ram := d.ram.writeFrom 0 (pack16 f).tail } :=
  Device.receive_full d _

/-- After a full write of a buffer the RAM holds the wire byte of row i at address 2i (R44, R91). -/
theorem Memory.read_pack16 (ram : Memory) (f : Buffer) (i : Fin 8) :
    (ram.writeFrom 0 (pack16 f).tail).read (2 * i.val) = some (rotr8 f[i]) := by
  simp [pack16, Memory.read_full]

theorem Memory.read_pack16_odd (ram : Memory) (f : Buffer) {k : Nat} (hk : k < 7) :
    (ram.writeFrom 0 (pack16 f).tail).read (2 * k + 1) = some 0x00 := by
  rw [pack16, Memory.read_full_odd ram _ hk]

/-- A last Send that is answered, and the device behind it. -/
theorem runBody_last_send_device {m : State → Message} {u : State} {d : Device}
    (ha : ∃ answer, u.reply = .answered answer) (hd : u.dev.receive (m u) = some d) :
    (u.reply = .answered .ok → (runBody [.send m] u).dev = d) ∧
      SameOutside (m u) u.dev (runBody [.send m] u).dev := by
  obtain ⟨hr, ht⟩ | ⟨k, hr, ht⟩ | ⟨hr, -⟩ := runBody_last_send m u
  · have hdev : (runBody [.send m] u).dev = d := by simp [ht, hd]
    rw [hdev]
    exact ⟨fun _ => rfl, Device.receive_sameOutside hd⟩
  · rw [ht]
    exact ⟨by simp [hr], Device.garble_sameOutside _ _ _⟩
  · obtain ⟨answer, ha⟩ := ha
    rw [hr] at ha
    cases ha

theorem runBody_last_send_fb (m : State → Message) (u : State) : (runBody [.send m] u).fb = u.fb := by
  obtain ⟨-, ht⟩ | ⟨k, -, ht⟩ | ⟨-, ht⟩ := runBody_last_send m u <;> rw [ht] <;> rfl

/-- A request that passes its checks is its body. -/
theorem exec_checked {i : Instr} {s : State} (hi : i.isRequest = true) (hc : checkOf i s = none) :
    exec i s = .next (runBody (bodyOf i s) s) := by
  rw [exec_request hi, hc, runChecked_none]

section
variable {i : Instr} {s : State} (hi : i.isRequest = true) (hc : checkOf i s = none)
include hi hc

/-- A request that writes one row and sends it. -/
theorem rowOnDevice_of_body {r : Fin 8} {v : Byte} {f : State → State} {m : State → Message}
    (hbody : bodyOf i s = [.write f, .send m]) (hf : f s = writeRow r v s)
    (hm : m (writeRow r v s).advance = [rowAddr (rowBits r), rotr8 v]) : RowOnDevice i s r := by
  intro ha
  have hreceive := Device.receive_row s.dev (rowBits r) (rotr8 v)
  rw [← hm, rowBits_toNat] at hreceive
  obtain ⟨hok, -, -, -, -, hrow, -⟩ :=
    runBody_last_send_device (u := (writeRow r v s).advance) ha hreceive
  obtain ⟨hdev, hframe⟩ := hrow r (rotr8 v) (by rw [hm, rowAddr_rowBits])
  have hexec : exec i s = .next (runBody [.send m] (writeRow r v s).advance) := by
    rw [exec_checked hi hc, hbody, runBody_write, hf]
  refine ⟨_, _, hexec, hdev, fun hr => ?_, hframe⟩
  rw [hok hr, runBody_last_send_fb]
  simp

/-- A request that writes the frame buffer and sends all of it. -/
theorem fullOnDevice_of_body {b : Buffer} {f : State → State}
    (hbody : bodyOf i s = [.write f, sendFull]) (hf : f s = writeRows b s) : FullOnDevice i s := by
  intro ha
  obtain ⟨hok, -, -, -, -, -, hfull⟩ :=
    runBody_last_send_device (u := (writeRows b s).advance) (m := fun u => pack16 u.fb) ha
      (Device.receive_pack16 s.dev b)
  obtain ⟨hdev, hframe⟩ := hfull _ (pack16.eq_1 b)
  have hexec : exec i s = .next (runBody [.send fun u => pack16 u.fb] (writeRows b s).advance) := by
    rw [exec_checked hi hc, hbody, runBody_write, hf, sendFull]
  refine ⟨_, _, hexec, hdev, fun hr => ?_, hframe⟩
  rw [hok hr, runBody_last_send_fb]
  exact ⟨Memory.read_pack16 s.dev.ram b, fun k hk => Memory.read_pack16_odd s.dev.ram b hk⟩

/-- A request whose writes, done in `u`, leave the device and the transport alone, and that then sends one command. -/
theorem commandOnDevice_of_body {u : State} {m : State → Message} {d : Device} {rest : Device → Prop}
    (hbody : runBody (bodyOf i s) s = runBody [.send m] u) (hreply : u.reply = s.reply) (hdev : u.dev = s.dev)
    (hd : s.dev.receive (m u) = some d) (hrest : ∀ e, SameOutside (m u) s.dev e → rest e) :
    CommandOnDevice i s d rest := by
  intro ha
  rw [← hreply] at ha ⊢
  rw [← hdev] at hd hrest
  obtain ⟨hok, hsame⟩ := runBody_last_send_device ha hd
  exact ⟨_, exec_checked hi hc, by rwa [hbody], by rw [hbody]; exact hrest _ hsame⟩

end

/-- The row message behind the write of its row (R92). -/
theorem rowmsg_writeRow (s : State) (r : Fin 8) (v : Byte) :
    rowmsg (writeRow r v s).advance.fb r = [rowAddr (rowBits r), rotr8 v] := by
  simp [rowmsg]

theorem gate_index_none {s : State} {a : Byte} {r : Fin 8} (hs : s.inited = true) (ha : a.toNat = r.val) :
    gateAndOperands s (checkIndex a) = none :=
  gateAndOperands_eq_none.mpr ⟨hs, checkIndex_eq_none.mpr (by omega)⟩

theorem gate_pixel_none {s : State} {a b : Byte} {r c : Fin 8} (hs : s.inited = true) (ha : a.toNat = r.val)
    (hb : b.toNat = c.val) : gateAndOperands s (checkPixel a b) = none :=
  gateAndOperands_eq_none.mpr ⟨hs, checkPixel_eq_none.mpr (by omega)⟩

theorem gate_none {s : State} (hs : s.inited = true) : gateAndOperands s none = none :=
  gateAndOperands_eq_none.mpr ⟨hs, rfl⟩

/-- Settles O40: each of the four writes the row of its operand and sends it. -/
theorem rowOperationsOnTheDevice : Obligations.RowOperationsOnTheDevice := by
  intro s row column byte r c hs hrow hcolumn
  have hindex := gate_index_none hs hrow
  have hpixel := gate_pixel_none hs hrow hcolumn
  have hdark : rotr8 0x00 = 0x00 := by decide
  obtain rfl := index_of_toNat hrow
  refine ⟨?_, ?_, ?_, ?_⟩
  · exact rowOnDevice_of_body (i := .setRow row byte) rfl hindex rfl rfl (rowmsg_writeRow s _ _)
  · exact rowOnDevice_of_body (i := .clearRow row) rfl hindex rfl rfl (by rw [hdark])
  · exact rowOnDevice_of_body (i := .setPixel row column) rfl hpixel rfl rfl (rowmsg_writeRow s _ _)
  · exact rowOnDevice_of_body (i := .clearPixel row column) rfl hpixel rfl rfl (rowmsg_writeRow s _ _)

/-- Settles O41: each of the four writes the frame buffer and sends all of it. -/
theorem fullOperationsOnTheDevice : Obligations.FullOperationsOnTheDevice := by
  intro s p column byte c hs hcolumn
  have hindex := gate_index_none hs hcolumn
  refine ⟨?_, ?_, ?_, ?_⟩
  · exact fullOnDevice_of_body (i := .set p) rfl (gate_none hs) rfl rfl
  · exact fullOnDevice_of_body (i := .clear) rfl (gate_none hs) rfl rfl
  · exact fullOnDevice_of_body (i := .setColumn column byte) rfl hindex rfl rfl
  · exact fullOnDevice_of_body (i := .clearColumn column) rfl hindex rfl rfl

/-! ## What is left of the device beside a display command, and beside a brightness message -/

theorem sameOutside_displayOn {m : BitVec 2} {d e : Device} (h : SameOutside [displayOnByte m] d e) :
    e.osc = d.osc ∧ e.dim = d.dim ∧ e.ram = d.ram := by
  obtain ⟨-, -, h, -⟩ := h
  rw [h m rfl]
  exact ⟨rfl, rfl, rfl⟩

theorem sameOutside_displayOff {d e : Device} (h : SameOutside [displayOffByte] d e) :
    e.osc = d.osc ∧ e.dim = d.dim ∧ e.ram = d.ram := by
  obtain ⟨-, -, -, h, -⟩ := h
  rw [h rfl]
  exact ⟨rfl, rfl, rfl⟩

theorem sameOutside_brightness {l : BitVec 4} {d e : Device} (h : SameOutside [brightnessByte l] d e) :
    e.osc = d.osc ∧ e.dispOn = d.dispOn ∧ e.dispBlink = d.dispBlink ∧ e.ram = d.ram := by
  obtain ⟨-, h, -⟩ := h
  rw [h l rfl]
  exact ⟨rfl, rfl, rfl, rfl⟩

theorem levelOf_of_toNat {a : Byte} {l : BitVec 4} (h : a.toNat = l.toNat) : levelOf a = l := by
  apply BitVec.eq_of_toNat_eq
  simpa [levelOf, h] using l.isLt

theorem modeOf_of_toNat {a : Byte} {m : BitVec 2} (h : a.toNat = m.toNat) : modeOf a = m := by
  apply BitVec.eq_of_toNat_eq
  simpa [modeOf, h] using m.isLt

/-- Settles O42: each of the four sends one command behind its writes. -/
theorem commandOperationsOnTheDevice : Obligations.CommandOperationsOnTheDevice := by
  intro s level mode l m hs hlevel hmode
  have hcheckLevel : gateAndOperands s (checkLevel level) = none :=
    gateAndOperands_eq_none.mpr ⟨hs, checkA_legal (by omega)⟩
  have hcheckMode : gateAndOperands s (checkMode mode) = none :=
    gateAndOperands_eq_none.mpr ⟨hs, checkA_legal (by omega)⟩
  obtain rfl := levelOf_of_toNat hlevel
  obtain rfl := modeOf_of_toNat hmode
  refine ⟨?_, ?_, ?_, fun hon => ?_⟩
  · exact commandOnDevice_of_body (i := .on) (u := (writeIsOn true s).advance)
      (m := fun u => [displayOnByte u.blink]) rfl (gate_none hs) rfl rfl rfl (Device.receive_displayOn _ _)
      fun _ => sameOutside_displayOn
  · exact commandOnDevice_of_body (i := .off) (u := (writeIsOn false s).advance)
      (m := fun _ => [displayOffByte]) rfl (gate_none hs) rfl rfl rfl (Device.receive_displayOff _)
      fun _ => sameOutside_displayOff
  · exact commandOnDevice_of_body (i := .setBrightness level) (u := s)
      (m := fun _ => [brightnessByte (levelOf level)]) rfl hcheckLevel rfl rfl rfl
      (Device.receive_brightness _ _) fun _ => sameOutside_brightness
  · have hbody : bodyOf (.setBlinking mode) s = .write (writeBlink (modeOf mode)) :: onBody := by
      simp [bodyOf, setBlinkingBody, hon]
    exact commandOnDevice_of_body (i := .setBlinking mode)
      (u := (writeIsOn true (writeBlink (modeOf mode) s).advance).advance)
      (m := fun u => [displayOnByte u.blink]) rfl hcheckMode (congrArg (runBody · s) hbody) rfl rfl
      (Device.receive_displayOn _ _) fun _ => sameOutside_displayOn

end Sys2Proof.Machine
end

section
/-! The block has no read path from the device (20_memory R38): a run in front of another device differs in the device
alone. -/

namespace Sys2Proof.Machine

theorem bodyOf_write_ignores_dev {i : Instr} {s₀ : State} {f : State → State} (hf : .write f ∈ bodyOf i s₀)
    (s : State) (d : Device) : f { s with dev := d } = { f s with dev := d } := by
  cases i <;>
    simp [bodyOf, initBody, onBody, offBody, setBrightnessBody, setBlinkingBody, setBody, clearBody,
      setRowBody, clearRowBody, setColumnBody, clearColumnBody, setPixelBody, clearPixelBody, sendOsc,
      sendBrightness, sendFull, sendDisplayOn, sendDisplayOff, sendRow] at hf
  case init => obtain rfl | rfl | rfl | rfl := hf <;> rfl
  case setBlinking => obtain rfl | ⟨-, rfl⟩ := hf <;> rfl
  all_goals (subst hf; rfl)

theorem checkOf_ignores_dev (i : Instr) (s : State) (d : Device) : checkOf i { s with dev := d } = checkOf i s := by
  cases i <;> rfl

/-- A body none of whose micro-steps reads the device. -/
theorem runBody_ignores_dev {body : List Micro}
    (hwrite : ∀ f, .write f ∈ body → ∀ (s : State) (d : Device), f { s with dev := d } = { f s with dev := d })
    (hsend : ∀ m, .send m ∈ body → ∀ (s : State) (d : Device), m { s with dev := d } = m s)
    (s : State) (d : Device) : ∃ d', runBody body { s with dev := d } = { runBody body s with dev := d' } := by
  induction body generalizing s d with
  | nil => exact ⟨d, rfl⟩
  | cons micro rest ih =>
    have ih := ih (fun f hf => hwrite f (List.mem_cons_of_mem _ hf))
      (fun m hm => hsend m (List.mem_cons_of_mem _ hm))
    cases micro with
    | write f =>
      rw [runBody_write, runBody_write, hwrite f List.mem_cons_self]
      exact ih (f s).advance d
    | send m =>
      have hm := hsend m List.mem_cons_self s d
      have hreply : { s with dev := d }.reply = s.reply := rfl
      rcases hr : s.reply with (_ | kind) | _
      · rw [runBody_send_ok hr, runBody_send_ok (hreply.trans hr), hm]
        exact ih (s.sendOk (m s)).advance _
      · rw [runBody_send_err hr, runBody_send_err (hreply.trans hr), hm]
        exact ⟨_, rfl⟩
      · rw [runBody_send_silent hr, runBody_send_silent (hreply.trans hr), hm]
        exact ⟨d, rfl⟩

/-- Settles O43: check and body are the same in front of either device, and no micro-step of the body reads it. -/
theorem blockNeverReadsTheDevice : Obligations.BlockNeverReadsTheDevice := by
  intro i s d hi
  rw [exec_request hi, exec_request hi, checkOf_ignores_dev i s d,
    bodyOf_congr i (s := { s with dev := d }) (t := s) rfl]
  cases checkOf i s with
  | some e => exact ⟨_, d, rfl, rfl⟩
  | none =>
    obtain ⟨d', h⟩ := runBody_ignores_dev (body := bodyOf i s) (fun f hf => bodyOf_write_ignores_dev hf)
      (fun m hm s d => bodyOf_send_reads hm rfl rfl) s d
    exact ⟨_, d', rfl, congrArg Host.Outcome.next h⟩

end Sys2Proof.Machine
end

section
/-! What every run keeps of the device: the form of its RAM (20_memory R44, log 7), and the mirror of the block
(R45). -/

namespace Sys2Proof.Machine

theorem bodyOf_write_keeps_dev {i : Instr} {s₀ : State} {f : State → State} (hf : .write f ∈ bodyOf i s₀) :
    ∀ s, (f s).dev = s.dev :=
  bodyOf_writes i s₀ (P := fun f => ∀ s, (f s).dev = s.dev) (fun _ _ _ => rfl) (fun _ _ => rfl)
    (fun _ _ => rfl) (fun _ _ => rfl) (fun _ _ => rfl) (fun _ _ => rfl) f hf

/-- A request's body changes the RAM only by messages taken or failed, and both keep its form. -/
theorem runBody_bodyOf_wf (i : Instr) {s : State} (h : s.dev.ram.wf = true) :
    (runBody (bodyOf i s) s).dev.ram.wf = true :=
  runBody_keeps (P := fun u => u.dev.ram.wf = true) (fun _ _ h => h) (fun _ h => h)
    (fun u m h => State.deliver_wf (s := u) m h) (fun _ m _ h => Device.garble_wf _ m h) (fun _ _ h => h)
    (bodyOf i s) (fun f hf u h => by rwa [bodyOf_write_keeps_dev hf u]) s h

/-- Settles O51, by what a step can be: a message taken, a message given up at RESET, or the messages of a body. -/
theorem stepKeepsRamCanonical : Obligations.StepKeepsRamCanonical := by
  intro s t hs hstep
  obtain ⟨-, -, d, rfl, hd⟩ | rfl | rfl | ⟨-, -, cw, p, ⟨e, rfl⟩ | ⟨i, -, -, rfl⟩⟩ := step_next hstep
  · exact hd hs
  · exact State.resetBlock_wf (s := s.nextLines) hs
  · exact hs
  · exact hs
  · exact runBody_bodyOf_wf i (s := s.nextLines.accept cw p) hs

theorem sinceInit_suffix (tx : List TxRecord) : sinceInit tx <:+ tx := by
  induction tx with
  | nil => exact List.suffix_rfl
  | cons r rest ih =>
    rw [sinceInit_cons]
    split_ifs
    · exact List.suffix_rfl
    · exact List.nil_suffix
    · exact ih.trans (List.suffix_cons r rest)

/-- Settles O54: the shadow invariant holds at reset and every step keeps it, and the Sends since the last INIT are
some of those since the last reset. -/
theorem mirrorProperty : Obligations.MirrorProperty := by
  intro inputs replies n t hrun hok hi hb
  have hreset : ShadowInvariant { State.reset with inputs := inputs, replies := replies } :=
    shadowInvariant_of_not_inited rfl rfl
  obtain ⟨-, -, hagree⟩ := core_run_keeps stepKeepsShadowInvariant n hreset hrun
  exact (hagree hi hb fun r hr => hok r ((sinceInit_suffix t.tx).mem hr)).1

end Sys2Proof.Machine
end

section
/-! The signals of the transport port (20_memory R30, R31). -/

namespace Sys2Proof.Machine

/-- The lowest byte of T_DATA is the first of the message. -/
theorem packBytes_cons_zero (b : Byte) (rest : Message) : (packBytes (b :: rest)).extractLsb' 0 8 = b := by
  apply BitVec.eq_of_getLsbD_eq
  intro j hj
  simp [packBytes, hj, show j < 128 by omega]

/-- The bytes above it are those of the rest of the message. -/
theorem packBytes_cons_succ (b : Byte) (rest : Message) {k : Nat} (hk : k + 1 < 16) :
    (packBytes (b :: rest)).extractLsb' (8 * (k + 1)) 8 = (packBytes rest).extractLsb' (8 * k) 8 := by
  apply BitVec.eq_of_getLsbD_eq
  intro j hj
  have hin : 8 * (k + 1) + j < 128 := by omega
  have hup : ¬8 * (k + 1) + j < 8 := by omega
  have hdown : 8 * (k + 1) + j - 8 = 8 * k + j := by omega
  have hb : b.getLsbD (8 * (k + 1) + j) = false := BitVec.getLsbD_of_ge _ _ (by omega)
  simp [packBytes, hj, hin, hup, hdown, hb, BitVec.getLsbD_eq_getElem (show 8 * k + j < 128 by omega)]

/-- Byte k of the message stands in T_DATA[8k+7:8k], and above the message are zeros. -/
theorem packBytes_byte (m : Message) {k : Nat} (hk : k < 16) :
    (packBytes m).extractLsb' (8 * k) 8 = m.getD k 0x00 := by
  induction m generalizing k with
  | nil => simp [packBytes]
  | cons b rest ih =>
    cases k with
    | zero => exact packBytes_cons_zero b rest
    | succ k =>
      rw [packBytes_cons_succ b rest hk, ih (by omega)]
      rfl

theorem sixShapes_length {m : Message} (h : SixShapes m) : m.length = 1 ∨ m.length = 2 ∨ m.length = 16 := by
  obtain rfl | ⟨_, rfl⟩ | ⟨_, rfl⟩ | rfl | ⟨_, _, rfl⟩ | ⟨_, rfl⟩ := h
  · exact .inl rfl
  · exact .inl rfl
  · exact .inl rfl
  · exact .inl rfl
  · exact .inr (.inl rfl)
  · exact .inr (.inr rfl)

theorem answerOfSignals_answerSignals (a : Answer) :
    answerOfSignals (answerSignals a).1 (answerSignals a).2 = some a := by
  cases a with
  | ok => rfl
  | err kind => cases kind <;> rfl

/-- Settles O58: the length from the six shapes, the data byte by byte, the answer by its signals. -/
theorem transportPortSignals : Obligations.TransportPortSignals := by
  refine ⟨fun addr m hm => ?_, answerOfSignals_answerSignals, fun _ => rfl⟩
  refine ⟨rfl, rfl, ?_, ?_, fun k hk => packBytes_byte m hk⟩
  · obtain h | h | h := sixShapes_length hm <;> simp [offered, h]
  · obtain h | h | h := sixShapes_length hm <;> simp [offered, h]

end Sys2Proof.Machine
end

section
/-! The request decoder by opcode (30_encoding R50 to R54): one equation per row of the opcode map, and the words
outside it. -/

namespace Sys2Proof

/-! ## Fields that must be zero -/

@[simp] theorem requireZero_eq_ok {zero : Bool} {i j : Instr} :
    requireZero zero i = .ok j ↔ zero = true ∧ i = j := by
  cases zero <;> simp [requireZero]

@[simp] theorem exists_requireZero_eq_error {zero : Bool} {i : Instr} :
    (∃ e, requireZero zero i = .error e) ↔ zero = false := by
  cases zero <;> simp [requireZero]

/-! ## One equation per opcode -/

section
variable (a b : Byte) (p : Payload)

@[simp] theorem decodeRequest_init : decodeRequest (0x01#8 ++ a ++ b) p =
    requireZero (!b.getLsbD 7) (.init a (b.extractLsb' 0 7)) := by
  simp only [decodeRequest, fields_of_append]; rfl

@[simp] theorem decodeRequest_on :
    decodeRequest (0x02#8 ++ a ++ b) p = requireZero (a == 0 && b == 0) .on := by
  simp only [decodeRequest, fields_of_append]; rfl

@[simp] theorem decodeRequest_off :
    decodeRequest (0x03#8 ++ a ++ b) p = requireZero (a == 0 && b == 0) .off := by
  simp only [decodeRequest, fields_of_append]; rfl

@[simp] theorem decodeRequest_setBrightness :
    decodeRequest (0x04#8 ++ a ++ b) p = requireZero (b == 0) (.setBrightness a) := by
  simp only [decodeRequest, fields_of_append]; rfl

@[simp] theorem decodeRequest_setBlinking :
    decodeRequest (0x05#8 ++ a ++ b) p = requireZero (b == 0) (.setBlinking a) := by
  simp only [decodeRequest, fields_of_append]; rfl

@[simp] theorem decodeRequest_set :
    decodeRequest (0x06#8 ++ a ++ b) p = requireZero (a == 0 && b == 0) (.set p) := by
  simp only [decodeRequest, fields_of_append]; rfl

@[simp] theorem decodeRequest_clear :
    decodeRequest (0x07#8 ++ a ++ b) p = requireZero (a == 0 && b == 0) .clear := by
  simp only [decodeRequest, fields_of_append]; rfl

@[simp] theorem decodeRequest_setRow : decodeRequest (0x08#8 ++ a ++ b) p = .ok (.setRow a b) := by
  simp only [decodeRequest, fields_of_append]; rfl

@[simp] theorem decodeRequest_clearRow :
    decodeRequest (0x09#8 ++ a ++ b) p = requireZero (b == 0) (.clearRow a) := by
  simp only [decodeRequest, fields_of_append]; rfl

@[simp] theorem decodeRequest_setColumn : decodeRequest (0x0A#8 ++ a ++ b) p = .ok (.setColumn a b) := by
  simp only [decodeRequest, fields_of_append]; rfl

@[simp] theorem decodeRequest_clearColumn :
    decodeRequest (0x0B#8 ++ a ++ b) p = requireZero (b == 0) (.clearColumn a) := by
  simp only [decodeRequest, fields_of_append]; rfl

@[simp] theorem decodeRequest_setPixel : decodeRequest (0x0C#8 ++ a ++ b) p = .ok (.setPixel a b) := by
  simp only [decodeRequest, fields_of_append]; rfl

@[simp] theorem decodeRequest_clearPixel : decodeRequest (0x0D#8 ++ a ++ b) p = .ok (.clearPixel a b) := by
  simp only [decodeRequest, fields_of_append]; rfl

theorem decodeRequest_undefined {op : Byte} (h : op = 0x00 ∨ 0x0E ≤ op.toNat) :
    decodeRequest (op ++ a ++ b) p = .error .undefinedOpcode := by
  have hop : op.toNat = 0 ∨ 0x0E ≤ op.toNat := h.imp_left fun h => by rw [h]; rfl
  simp only [decodeRequest, fields_of_append]
  split
  case h_14 => rfl
  all_goals omega

end

/-- The opcodes of the map, by the format of R52: INIT's; A and B zero; B zero; A and B both operands. -/
theorem opcode_cases {op : Byte} (h : ¬(op = 0x00 ∨ 0x0E ≤ op.toNat)) :
    op = 0x01#8 ∨ (op = 0x02#8 ∨ op = 0x03#8 ∨ op = 0x06#8 ∨ op = 0x07#8) ∨
      (op = 0x04#8 ∨ op = 0x05#8 ∨ op = 0x09#8 ∨ op = 0x0B#8) ∨
      (op = 0x08#8 ∨ op = 0x0A#8 ∨ op = 0x0C#8 ∨ op = 0x0D#8) := by
  bv_omega

end Sys2Proof
end

section
/-! Which words the request decoder accepts (30_encoding R53, R54), and decoder and encoder as inverses of each other
(parts A and B). -/

namespace Sys2Proof

open Machine

/-! ## Decoding an encoding -/

theorem decodeWire_dimming (level : BitVec 4) : decodeWire [brightnessByte level] = .ok (.dimming level) := by
  have h : ∀ l : BitVec 4, decodeWire [brightnessByte l] = .ok (.dimming l) := by decide
  exact h level

theorem decodeWire_displayOn (mode : BitVec 2) : decodeWire [displayOnByte mode] = .ok (.displayOn mode) := by
  have h : ∀ m : BitVec 2, decodeWire [displayOnByte m] = .ok (.displayOn m) := by decide
  exact h mode

theorem decodeWire_rowWrite (row : BitVec 3) (wire : Byte) :
    decodeWire [rowAddr row, wire] = .ok (.rowWrite row wire) := by
  have h : ∀ r : BitVec 3, rowAddr r &&& 0xF1 = 0x00 ∧ (rowAddr r).extractLsb' 1 3 = r := by decide
  obtain ⟨hmatch, hrow⟩ := h row
  simp only [decodeWire, hmatch, hrow, if_true]

theorem decodeWire_fullBytes (wires : Buffer) : decodeWire (fullBytes wires) = .ok (.fullWrite wires) := by
  have hwires : #v[wires[0], wires[1], wires[2], wires[3], wires[4], wires[5], wires[6], wires[7]] = wires := by
    ext k hk
    interval_cases k <;> rfl
  simp [decodeWire, fullBytes, hwires]

/-- The address of INIT is B[6:0], and B[7] is zero (R51). -/
theorem decodeRequest_encode_init (brightness : Byte) (address : BusAddress) :
    decodeRequest (commandWord 0x01 brightness (address.setWidth 8)) 0 = .ok (.init brightness address) := by
  have haddress : (address.setWidth 8).extractLsb' 0 7 = address := by
    apply BitVec.eq_of_getLsbD_eq
    intro k hk
    simp [hk, show k < 8 by omega]
  have hzero : (!(address.setWidth 8).getLsbD 7) = true := by simp
  exact (decodeRequest_init _ _ _).trans (requireZero_eq_ok.mpr ⟨hzero, by rw [haddress]⟩)

/-- Settles O2: a request by the equation of its opcode, a wire message by that of its bytes. -/
theorem decodeInvertsEncode : Obligations.DecodeInvertsEncode := by
  intro i
  cases i with
  | init brightness address => exact decodeRequest_encode_init brightness address
  | on => exact decodeRequest_on 0 0 0
  | off => exact decodeRequest_off 0 0 0
  | setBrightness level => exact decodeRequest_setBrightness level 0 0
  | setBlinking mode => exact decodeRequest_setBlinking mode 0 0
  | set bitmap => exact decodeRequest_set 0 0 bitmap
  | clear => exact decodeRequest_clear 0 0 0
  | setRow row byte => exact decodeRequest_setRow row byte 0
  | clearRow row => exact decodeRequest_clearRow row 0 0
  | setColumn column byte => exact decodeRequest_setColumn column byte 0
  | clearColumn column => exact decodeRequest_clearColumn column 0 0
  | setPixel row column => exact decodeRequest_setPixel row column 0
  | clearPixel row column => exact decodeRequest_clearPixel row column 0
  | oscOn => rfl
  | dimming level => exact decodeWire_dimming level
  | displayOn mode => exact decodeWire_displayOn mode
  | displayOff => rfl
  | rowWrite row wire => exact decodeWire_rowWrite row wire
  | fullWrite wires => exact decodeWire_fullBytes wires

/-- Settles O1: each word is decoded. -/
theorem tableWordsDecode : Obligations.TableWordsDecode := by
  unfold Obligations.TableWordsDecode
  decide

/-! ## Encoding what was decoded -/

theorem setWidth_extractLsb'_of_getLsbD_seven {b : Byte} (h : b.getLsbD 7 = false) :
    (b.extractLsb' 0 7).setWidth 8 = b := by
  revert b
  decide

/-- Settles O3: by the format of the opcode, the fields that the instruction does not hold are the zeros that the
encoder writes. -/
theorem encodeInvertsDecodeOfRequests : Obligations.EncodeInvertsDecodeOfRequests := by
  intro cw p i h
  refine ⟨?_, decodeRequest_isRequest h⟩
  rw [append_of_fields cw] at h ⊢
  generalize opField cw = op, aField cw = a, bField cw = b at h ⊢
  by_cases hop : op = 0x00 ∨ 0x0E ≤ op.toNat
  · rw [decodeRequest_undefined a b p hop] at h
    cases h
  obtain rfl | (rfl | rfl | rfl | rfl) | (rfl | rfl | rfl | rfl) | (rfl | rfl | rfl | rfl) := opcode_cases hop
  · obtain ⟨hb, rfl⟩ : b.getLsbD 7 = false ∧ _ = i := by simpa using h
    simp [encode, commandWord, setWidth_extractLsb'_of_getLsbD_seven hb]
  iterate 4
    · obtain ⟨⟨rfl, rfl⟩, rfl⟩ : (a = 0 ∧ b = 0) ∧ _ = i := by simpa using h
      simp [encode, commandWord]
  iterate 4
    · obtain ⟨rfl, rfl⟩ : b = 0 ∧ _ = i := by simpa using h
      simp [encode, commandWord]
  iterate 4
    · obtain rfl : _ = i := by simpa using h
      simp [encode, commandWord]

/-! ## The words without a meaning -/

/-- Settles O5: by the format of the opcode, the fields that must be zero. -/
theorem illegalWordsAreExactlyThese : Obligations.IllegalWordsAreExactlyThese := by
  intro op a b p
  by_cases hop : op = 0x00 ∨ 0x0E ≤ op.toNat
  · exact iff_of_true ⟨_, decodeRequest_undefined a b p hop⟩ (.inl hop)
  obtain rfl | (rfl | rfl | rfl | rfl) | (rfl | rfl | rfl | rfl) | (rfl | rfl | rfl | rfl) := opcode_cases hop
  · simp
  iterate 4
    · simp [Classical.or_iff_not_imp_left]
  all_goals simp

/-! ## The opcode map -/

open Laws in
/-- Every encoding carries the fixed bits of its row. -/
theorem fitsItsRow (i : Instr) : FitsItsRow.Statement i := by
  cases i with
  | init brightness address => exact FitsItsRow.init brightness address
  | on => exact FitsItsRow.on
  | off => exact FitsItsRow.off
  | setBrightness level => exact FitsItsRow.setBrightness level
  | setBlinking mode => exact FitsItsRow.setBlinking mode
  | set bitmap => exact FitsItsRow.set bitmap
  | clear => exact FitsItsRow.clear
  | setRow row byte => exact FitsItsRow.setRow row byte
  | clearRow row => exact FitsItsRow.clearRow row
  | setColumn column byte => exact FitsItsRow.setColumn column byte
  | clearColumn column => exact FitsItsRow.clearColumn column
  | setPixel row column => exact FitsItsRow.setPixel row column
  | clearPixel row column => exact FitsItsRow.clearPixel row column
  | oscOn => exact FitsItsRow.oscOn
  | dimming level => exact FitsItsRow.dimming level
  | displayOn mode => exact FitsItsRow.displayOn mode
  | displayOff => exact FitsItsRow.displayOff
  | rowWrite row wire => exact FitsItsRow.rowWrite row wire
  | fullWrite wires => exact FitsItsRow.fullWrite wires

section
variable {cw : CommandWord} {p : Payload} {row row' : OpcodeRow}

theorem exists_row_of_decodeRequest {i : Instr} (h : decodeRequest cw p = .ok i) :
    ∃ row ∈ opcodeMap, row.mnemonic = i.mnemonic ∧ cw &&& row.mask = row.value := by
  have hfits := fitsItsRow i
  rw [Laws.FitsItsRow.Statement, (encodeInvertsDecodeOfRequests cw p i h).1] at hfits
  exact hfits.2

/-- Masking a word masks its fields. -/
theorem fields_and (cw mask : CommandWord) :
    opField (cw &&& mask) = opField cw &&& opField mask ∧ aField (cw &&& mask) = aField cw &&& aField mask ∧
      bField (cw &&& mask) = bField cw &&& bField mask :=
  ⟨BitVec.extractLsb'_and, BitVec.extractLsb'_and, BitVec.extractLsb'_and⟩

/-- A row fixes the whole opcode, which names it, and the fields that its format leaves without an operand (R52). -/
theorem opcodeMap_fields : ∀ row ∈ opcodeMap,
    opField row.mask = BitVec.allOnes 8 ∧
    ¬(opField row.value = 0x00 ∨ 0x0E ≤ (opField row.value).toNat) ∧
    ((opField row.value = 0x02 ∨ opField row.value = 0x03 ∨ opField row.value = 0x06 ∨ opField row.value = 0x07) →
      (aField row.mask = BitVec.allOnes 8 ∧ aField row.value = 0) ∧
      bField row.mask = BitVec.allOnes 8 ∧ bField row.value = 0) ∧
    ((opField row.value = 0x04 ∨ opField row.value = 0x05 ∨ opField row.value = 0x09 ∨ opField row.value = 0x0B) →
      bField row.mask = BitVec.allOnes 8 ∧ bField row.value = 0) ∧
    (opField row.value = 0x01 → (bField row.mask).getLsbD 7 = true ∧ bField row.value = 0) := by
  decide

theorem opField_of_row (hrow : row ∈ opcodeMap) (h : cw &&& row.mask = row.value) :
    opField cw = opField row.value := by
  rw [← h, (fields_and _ _).1, (opcodeMap_fields row hrow).1, BitVec.and_allOnes]

/-- A word names at most one row. -/
theorem row_unique (hrow : row ∈ opcodeMap) (hrow' : row' ∈ opcodeMap)
    (h : cw &&& row.mask = row.value) (h' : cw &&& row'.mask = row'.value) : row = row' := by
  have hvalue : ∀ row ∈ opcodeMap, ∀ row' ∈ opcodeMap,
      opField row.value = opField row'.value → row = row' := by decide
  exact hvalue row hrow row' hrow' ((opField_of_row hrow h).symm.trans (opField_of_row hrow' h'))

/-- A field that a row fixes at zero is zero in the words it selects. -/
theorem field_eq_zero {x mask value : Byte} (h : value = x &&& mask) (hfixed : mask = BitVec.allOnes 8 ∧ value = 0) :
    x = 0 := by
  obtain ⟨rfl, rfl⟩ := hfixed
  rw [BitVec.and_allOnes] at h
  exact h.symm

/-- A word that a row selects has none of the faults of R54. -/
theorem decodeRequest_of_row (hrow : row ∈ opcodeMap) (h : cw &&& row.mask = row.value) (p : Payload) :
    ∃ i, decodeRequest cw p = .ok i := by
  cases hd : decodeRequest cw p with
  | ok i => exact ⟨i, rfl⟩
  | error e =>
    exfalso
    rw [append_of_fields cw] at hd
    obtain ⟨-, hdefined, hz, ha, hinit⟩ := opcodeMap_fields row hrow
    obtain ⟨-, hafield, hbfield⟩ := fields_and cw row.mask
    rw [h] at hafield hbfield
    rw [← opField_of_row hrow h] at hdefined hz ha hinit
    obtain hop | ⟨hop, hab⟩ | ⟨hop, hb⟩ | ⟨hop, hb⟩ := (illegalWordsAreExactlyThese _ _ _ p).mp ⟨e, hd⟩
    · exact hdefined hop
    · obtain ⟨hazero, hbzero⟩ := hz hop
      exact hab.elim (· (field_eq_zero hafield hazero)) (· (field_eq_zero hbfield hbzero))
    · exact hb (field_eq_zero hbfield (ha hop))
    · obtain ⟨hmask, hvalue⟩ := hinit hop
      have hseven : (bField row.value).getLsbD 7 = true := by rw [hbfield, BitVec.getLsbD_and, hb, hmask]; rfl
      rw [hvalue] at hseven
      exact absurd hseven (by decide)

end

/-- Settles O4: a word that decodes is an encoding, which selects a row of the instruction's mnemonic; a word that a
row selects decodes; and no two rows select one word or have one mnemonic. -/
theorem decodeSelectsTheMatchingRow : Obligations.DecodeSelectsTheMatchingRow := by
  intro cw p
  refine ⟨fun row hrow => ⟨fun h => ?_, ?_⟩, ⟨fun hnone => ?_, ?_⟩,
    fun row hrow row' hrow' => row_unique hrow hrow'⟩
  · obtain ⟨i, hi⟩ := decodeRequest_of_row hrow h p
    obtain ⟨row', hrow', hname, h'⟩ := exists_row_of_decodeRequest hi
    exact ⟨i, hi, by rw [row_unique hrow hrow' h h', hname]⟩
  · rintro ⟨i, hi, hname⟩
    obtain ⟨row', hrow', hname', h'⟩ := exists_row_of_decodeRequest hi
    have hnames : ∀ row ∈ opcodeMap, ∀ row' ∈ opcodeMap,
        row.mnemonic = row'.mnemonic → row = row' := by decide
    rwa [hnames row hrow row' hrow' (hname.symm.trans hname'.symm)]
  · cases hd : decodeRequest cw p with
    | error e => exact ⟨e, rfl⟩
    | ok i =>
      obtain ⟨row, hrow, -, h⟩ := exists_row_of_decodeRequest hd
      exact absurd h (hnone row hrow)
  · rintro ⟨e, he⟩ row hrow h
    obtain ⟨i, hi⟩ := decodeRequest_of_row hrow h p
    rw [he] at hi
    cases hi

end Sys2Proof
end

section
/-! The payload (30_encoding R55): the decoder attaches it to SET alone, and no micro-step reads REQ_P. -/

namespace Sys2Proof.Machine

theorem decodeRequest_ignores_payload {op : Byte} (hset : op ≠ 0x06) (a b : Byte) (p q : Payload) :
    decodeRequest (op ++ a ++ b) p = decodeRequest (op ++ a ++ b) q := by
  have hop : op.toNat ≠ 6 := fun h => hset (BitVec.eq_of_toNat_eq h)
  simp only [decodeRequest, fields_of_append]
  split
  case h_6 h => exact absurd h hop
  all_goals rfl

/-- The writes of a body read no register but FB: a property that each such write has, every write of every body
has. -/
theorem bodyOf_writes_reading_fb (i : Instr) (s₀ : State) {P : (State → State) → Prop}
    (hrow : ∀ r (g : Buffer → Byte), P fun s => writeRow r (g s.fb) s)
    (hrows : ∀ g : Buffer → Buffer, P fun s => writeRows (g s.fb) s)
    (hison : ∀ v, P (writeIsOn v)) (hblink : ∀ v, P (writeBlink v))
    (hinited : ∀ v, P (writeInited v)) (hcreation : ∀ a, P (writeCreation a)) {f : State → State}
    (hf : .write f ∈ bodyOf i s₀) : P f := by
  cases i <;>
    simp [bodyOf, initBody, onBody, offBody, setBrightnessBody, setBlinkingBody, setBody, clearBody, setRowBody,
      clearRowBody, setColumnBody, clearColumnBody, setPixelBody, clearPixelBody, sendOsc, sendBrightness, sendFull,
      sendDisplayOn, sendDisplayOff, sendRow] at hf
  case init brightness address =>
    obtain rfl | rfl | rfl | rfl := hf
    · exact hcreation address
    · exact hrows fun _ => clearRows
    · exact hison true
    · exact hinited true
  case on => exact hf ▸ hison true
  case off => exact hf ▸ hison false
  case setBlinking mode =>
    obtain rfl | ⟨-, rfl⟩ := hf
    · exact hblink (modeOf mode)
    · exact hison true
  case set bitmap => exact hf ▸ hrows fun _ => payloadRows bitmap
  case clear => exact hf ▸ hrows fun _ => clearRows
  case setRow row byte => exact hf ▸ hrow (index row) fun _ => byte
  case clearRow row => exact hf ▸ hrow (index row) fun _ => 0x00
  case setColumn column byte => exact hf ▸ hrows fun fb => setcol fb (index column) byte
  case clearColumn column => exact hf ▸ hrows fun fb => clrcol fb (index column)
  case setPixel row column => exact hf ▸ hrow (index row) fun fb => setbit fb[index row] (index column)
  case clearPixel row column => exact hf ▸ hrow (index row) fun fb => clrbit fb[index row] (index column)

theorem bodyOf_write_ignores_reqP {i : Instr} {s₀ : State} {f : State → State} (hf : .write f ∈ bodyOf i s₀)
    (s : State) (p : Payload) : f { s with reqP := p } = { f s with reqP := p } :=
  bodyOf_writes_reading_fb i s₀
    (P := fun f => ∀ (s : State) (p : Payload), f { s with reqP := p } = { f s with reqP := p })
    (fun _ _ _ _ => rfl) (fun _ _ _ => rfl) (fun _ _ _ => rfl) (fun _ _ _ => rfl) (fun _ _ _ => rfl)
    (fun _ _ _ => rfl) hf s p

theorem checkOf_ignores_reqP (i : Instr) (s : State) (p : Payload) :
    checkOf i { s with reqP := p } = checkOf i s := by
  cases i <;> rfl

/-- A body none of whose micro-steps reads REQ_P. -/
theorem runBody_ignores_reqP {body : List Micro}
    (hwrite : ∀ f, .write f ∈ body → ∀ (s : State) (p : Payload), f { s with reqP := p } = { f s with reqP := p })
    (hsend : ∀ m, .send m ∈ body → ∀ (s : State) (p : Payload), m { s with reqP := p } = m s)
    (s : State) (p : Payload) : runBody body { s with reqP := p } = { runBody body s with reqP := p } := by
  induction body generalizing s with
  | nil => rfl
  | cons micro rest ih =>
    have ih := ih (fun f hf => hwrite f (List.mem_cons_of_mem _ hf))
      (fun m hm => hsend m (List.mem_cons_of_mem _ hm))
    cases micro with
    | write f =>
      rw [runBody_write, runBody_write, hwrite f List.mem_cons_self]
      exact ih (f s).advance
    | send m =>
      have hm := hsend m List.mem_cons_self s p
      have hreply : { s with reqP := p }.reply = s.reply := rfl
      rcases hr : s.reply with (_ | kind) | _
      · rw [runBody_send_ok hr, runBody_send_ok (hreply.trans hr), hm]
        exact ih (s.sendOk (m s)).advance
      · rw [runBody_send_err hr, runBody_send_err (hreply.trans hr), hm]
        rfl
      · rw [runBody_send_silent hr, runBody_send_silent (hreply.trans hr), hm]
        rfl

/-- A request runs alike whatever REQ_P holds, and leaves it. -/
theorem exec_ignores_reqP {i : Instr} (hi : i.isRequest = true) (s : State) :
    ∃ t : State, ∀ p, exec i { s with reqP := p } = .next { t with reqP := p } := by
  refine ⟨runChecked (checkOf i s) (bodyOf i s) s, fun p => ?_⟩
  rw [exec_request hi, checkOf_ignores_reqP i s p, bodyOf_congr i (s := { s with reqP := p }) (t := s) rfl]
  congr 1
  cases checkOf i s with
  | some e => rfl
  | none =>
    exact runBody_ignores_reqP (fun f hf => bodyOf_write_ignores_reqP hf)
      (fun m hm s p => bodyOf_send_reads hm rfl rfl) s p

/-- Settles O6: both words decode alike, and the two acceptances differ in REQ_P alone. -/
theorem payloadIsReadOnlyBySet : Obligations.PayloadIsReadOnlyBySet := by
  intro s op a b p q hset
  have hdecode : ∀ p', decodeRequest (op ++ a ++ b) p' = decodeRequest (op ++ a ++ b) p :=
    fun p' => decodeRequest_ignores_payload hset a b p' p
  refine ⟨(hdecode q).symm, ?_⟩
  have haccept : ∀ p', s.accept (op ++ a ++ b) p' = { s.accept (op ++ a ++ b) p with reqP := p' } := fun _ => rfl
  suffices h : ∃ t : State, ∀ p', s.request (op ++ a ++ b) p' = .next { t with reqP := p' } by
    obtain ⟨t, ht⟩ := h
    exact ⟨t, ht p, ht q⟩
  cases hd : decodeRequest (op ++ a ++ b) p with
  | ok i =>
    obtain ⟨t, ht⟩ := exec_ignores_reqP (decodeRequest_isRequest hd) (s.accept (op ++ a ++ b) p)
    exact ⟨t, fun p' => by rw [State.request_decoded ((hdecode p').trans hd), haccept p', ht p']⟩
  | error e =>
    exact ⟨(s.accept (op ++ a ++ b) p).raise .illegalOperation,
      fun p' => State.request_undecoded ((hdecode p').trans hd) s⟩

end Sys2Proof.Machine
end

section
/-! Operations with a fixed operand (30_encoding R67), the validation table (R57) and the written form (R66). -/

namespace Sys2Proof.Machine

/-! ## The validation table -/

/-- A check of the table raises nothing when it does not apply and the checks behind it raise nothing. -/
theorem ite_some_eq_none {n k : Nat} {info : BitVec 2} {rest : Option (BitVec 2)} :
    (if n < k then some info else rest) = none ↔ k ≤ n ∧ rest = none := by
  by_cases h : n < k
  · simp [h]
  · simp [h, Nat.le_of_not_lt h]

/-- Settles O21: the validation table raises nothing exactly when every operand is in its range. -/
theorem wellFormedIsNoOperandError : Obligations.WellFormedIsNoOperandError := by
  intro i
  cases i <;> simp [Instr.wellFormed, operandError, ite_some_eq_none]

/-! ## Operations with a fixed operand -/

/-- The last Send of a body depends on its message alone. -/
theorem runBody_last_send_congr {m m' : State → Message} {s : State} (h : m s = m' s) :
    runBody [.send m] s = runBody [.send m'] s := by
  simp only [runBody, h]

theorem setcol_zero (f : Buffer) (c : Fin 8) : setcol f c 0x00 = clrcol f c := by
  ext k hk : 1
  simp [setcol]

theorem payloadRows_zero : payloadRows 0 = clearRows := by decide

/-- The row message of a cleared row is the one that R121 writes out. -/
theorem runBody_clearRowBody (row : Byte) (s : State) :
    runBody (clearRowBody row) s = runBody (setRowBody row 0x00) s := by
  rw [clearRowBody, setRowBody, runBody_write, runBody_write]
  exact runBody_last_send_congr (rowmsg_writeRow s (index row) 0x00).symm

/-- Settles O32: the checks are the same; CLEAR and CLEAR_COLUMN have the very bodies, CLEAR_ROW one that runs alike. -/
theorem pseudoOperations : Obligations.PseudoOperations := by
  intro s row column
  refine ⟨?_, ?_, ?_⟩
  · show execClearRow row s = execSetRow row 0x00 s
    rw [execClearRow, execSetRow]
    cases gateAndOperands s (checkIndex row) with
    | some e => rfl
    | none => rw [runChecked_none, runChecked_none, runBody_clearRowBody]
  · show execClear s = execSet 0 s
    rw [execClear, execSet, setBody, payloadRows_zero, clearBody]
  · show execClearColumn column s = execSetColumn column 0x00 s
    simp only [execClearColumn, execSetColumn, clearColumnBody, setColumnBody, setcol_zero]

/-! ## The written form -/

/-- Settles O60: each text is assembled. -/
theorem writtenForm : Obligations.WrittenForm := by
  refine ⟨?_, ?_, ?_⟩
  · rfl
  · rfl
  · rfl

end Sys2Proof.Machine
end

section
/-! The bit-transform unit (40_bit_transform R80 to R93): the rotator and one pixel of a byte bit by bit, the column
functions pixel by pixel, and the two data messages byte by byte. -/

namespace Sys2Proof.Machine

/-! ## The rotator (R80 to R82) -/

theorem rotr8_getLsbD (b : Byte) {k : Nat} (hk : k < 8) : (rotr8 b).getLsbD k = b.getLsbD ((k + 1) % 8) := by
  interval_cases k <;> simp [rotr8]

theorem rotl8_getLsbD (b : Byte) {k : Nat} (hk : k < 8) : (rotl8 b).getLsbD k = b.getLsbD ((k + 7) % 8) := by
  interval_cases k <;> simp [rotl8]

theorem rotr8_rotl8 (b : Byte) : rotr8 (rotl8 b) = b := by
  apply BitVec.eq_of_getLsbD_eq
  intro k hk
  rw [rotr8_getLsbD _ hk, rotl8_getLsbD _ (Nat.mod_lt _ (by decide))]
  congr 1
  omega

theorem rotr8_iterate_getLsbD (n : Nat) (b : Byte) {k : Nat} (hk : k < 8) :
    (rotr8^[n] b).getLsbD k = b.getLsbD ((k + n) % 8) := by
  induction n generalizing k with
  | zero => simp [Nat.mod_eq_of_lt hk]
  | succ n ih =>
    rw [Function.iterate_succ_apply', rotr8_getLsbD _ hk, ih (Nat.mod_lt _ (by decide))]
    congr 1
    omega

theorem rotr8_iterate_eight (b : Byte) : rotr8^[8] b = b := by
  apply BitVec.eq_of_getLsbD_eq
  intro k hk
  rw [rotr8_iterate_getLsbD 8 b hk, Nat.add_mod_right, Nat.mod_eq_of_lt hk]

/-- Going 8 - k places left undoes the last 8 - k of eight places right. -/
theorem rotr8_iterate_eq_rotl8_iterate (b : Byte) {k : Nat} (hk : k ≤ 8) : rotr8^[k] b = rotl8^[8 - k] b := by
  have hundo : Function.LeftInverse rotl8^[8 - k] rotr8^[8 - k] := Function.LeftInverse.iterate rotl8_rotr8 _
  calc rotr8^[k] b
      = rotl8^[8 - k] (rotr8^[8 - k] (rotr8^[k] b)) := (hundo _).symm
    _ = rotl8^[8 - k] (rotr8^[8] b) := by rw [← Function.iterate_add_apply, Nat.sub_add_cancel hk]
    _ = rotl8^[8 - k] b := by rw [rotr8_iterate_eight]

/-- The rotator permutes the bit numbers, so it keeps the number of set bits. -/
theorem rotr8_countP (b : Byte) :
    (List.range 8).countP (rotr8 b).getLsbD = (List.range 8).countP b.getLsbD := by
  have hperm : ((List.range 8).map fun k => (k + 1) % 8).Perm (List.range 8) := by decide
  rw [← hperm.countP_eq b.getLsbD, List.countP_map]
  exact List.countP_congr fun k hk => by rw [rotr8_getLsbD b (List.mem_range.mp hk), Function.comp_apply]

theorem rotr8_or (a b : Byte) : rotr8 (a ||| b) = rotr8 a ||| rotr8 b := by
  apply BitVec.eq_of_getLsbD_eq
  intro k hk
  simp only [BitVec.getLsbD_or, rotr8_getLsbD _ hk]

theorem rotr8_and (a b : Byte) : rotr8 (a &&& b) = rotr8 a &&& rotr8 b := by
  apply BitVec.eq_of_getLsbD_eq
  intro k hk
  simp only [BitVec.getLsbD_and, rotr8_getLsbD _ hk]

theorem rotr8_not (a : Byte) : rotr8 (~~~a) = ~~~rotr8 a := by
  apply BitVec.eq_of_getLsbD_eq
  intro k hk
  have hmod : (k + 1) % 8 < 8 := Nat.mod_lt _ (by decide)
  simp only [BitVec.getLsbD_not, rotr8_getLsbD _ hk, hk, hmod]

/-- Settles O7: each law from the bit by bit form of the rotator; 0x01 shows that it is no involution. -/
theorem rotatorLaws : Obligations.RotatorLaws := by
  refine ⟨fun b => ⟨rotr8_getLsbD b (by decide), fun k => ?_⟩, fun b => ⟨rotl8_getLsbD b (by decide), fun k => ?_⟩,
    fun b => ⟨rotl8_rotr8 b, rotr8_rotl8 b⟩, fun b k => rotr8_iterate_eq_rotl8_iterate b k.is_le,
    rotr8_iterate_eight, rotr8_countP, fun a b => ⟨rotr8_or a b, rotr8_and a b, rotr8_not a⟩, by decide⟩
  · have hk := k.isLt
    rw [rotr8_getLsbD b (by omega), Nat.mod_eq_of_lt (by omega)]
  · have hk := k.isLt
    rw [rotl8_getLsbD b (by omega), show (k.val + 1 + 7) % 8 = k.val by omega]

/-! ## One pixel of a byte (R90) -/

/-- Two bytes with the same pixels are equal. -/
theorem byte_ext_pixel {a b : Byte} (h : ∀ k : Fin 8, a.getLsbD (7 - k.val) = b.getLsbD (7 - k.val)) : a = b := by
  apply BitVec.eq_of_getLsbD_eq
  intro j hj
  have hrev : 7 - (7 - j) = j := by omega
  simpa only [hrev] using h ⟨7 - j, by omega⟩

theorem colmask_getLsbD_weight (c k : Fin 8) : (colmask c).getLsbD k = (k.val == 7 - c.val) := by
  revert c k
  decide

theorem setbit_setbit (b : Byte) (c : Fin 8) : setbit (setbit b c) c = setbit b c := by
  rw [setbit, setbit, BitVec.or_assoc, BitVec.or_self]

theorem clrbit_clrbit (b : Byte) (c : Fin 8) : clrbit (clrbit b c) c = clrbit b c := by
  rw [clrbit, clrbit, BitVec.and_assoc, BitVec.and_self]

theorem clrbit_setbit (b : Byte) (c : Fin 8) : clrbit (setbit b c) c = clrbit b c :=
  byte_ext_pixel fun k => by by_cases h : k = c <;> simp [clrbit_getLsbD, setbit_getLsbD, h]

theorem setbit_clrbit (b : Byte) (c : Fin 8) : setbit (clrbit b c) c = setbit b c :=
  byte_ext_pixel fun k => by by_cases h : k = c <;> simp [clrbit_getLsbD, setbit_getLsbD, h]

/-- Settles O11: the mask has the bit of the column alone. -/
theorem pixelBitLaws : Obligations.PixelBitLaws := by
  intro b c
  refine ⟨rfl, rfl, fun k => ?_, fun k => ?_, setbit_setbit b c, clrbit_clrbit b c, clrbit_setbit b c,
    setbit_clrbit b c⟩
  · rw [setbit, BitVec.getLsbD_or, colmask_getLsbD_weight]
  · rw [clrbit, BitVec.getLsbD_and, BitVec.getLsbD_not, colmask_getLsbD_weight, decide_eq_true k.isLt, Bool.true_and]

/-! ## The column functions row by row (R86, R87) -/

theorem clrcol_row (f : Buffer) (c k : Fin 8) : (clrcol f c)[k] = clrbit f[k] c := by
  simp [clrcol]

theorem setcol_row (f : Buffer) (c k : Fin 8) (b : Byte) :
    (setcol f c b)[k] = if b.getLsbD (7 - k.val) then setbit (clrbit f[k] c) c else clrbit f[k] c := by
  simp [setcol, clrcol]

/-- The mask of column c is the bit of weight 7 - c (R63). -/
theorem colmask_eq_shiftLeft (c : Fin 8) : colmask c = 1#8 <<< (7 - c.val) := by
  revert c
  decide

/-- One bit of a byte, taken out by a shift and a mask. -/
theorem shiftRight_and_one (b : Byte) (n : Nat) : (b >>> n) &&& 1#8 = if b.getLsbD n then 1#8 else 0#8 := by
  rw [BitVec.and_one_eq_setWidth_ofBool_getLsbD, BitVec.getLsbD_ushiftRight, Nat.add_zero]
  cases b.getLsbD n <;> rfl

/-- Settles O8: the bit that R87 shifts to column c is the mask of c or nothing. -/
theorem columnFunctionsPixelByPixel : Obligations.ColumnFunctionsPixelByPixel := by
  intro f c b
  refine ⟨fun k => clrcol_row f c k, fun k => ?_⟩
  rw [setcol_row, shiftRight_and_one]
  change _ = clrbit f[k] c ||| _
  split
  · rw [← colmask_eq_shiftLeft, setbit]
  · rw [BitVec.zero_shiftLeft, BitVec.or_zero]

/-! ## The frame buffer pixel by pixel (R84 to R89) -/

/-- Two buffers with the same pixels are equal. -/
theorem buffer_ext_getpixel {f g : Buffer} (h : ∀ r c : Fin 8, getpixel f r c = getpixel g r c) : f = g := by
  ext r hr : 1
  refine byte_ext_pixel fun c => ?_
  have hpixel := h ⟨r, hr⟩ c
  rw [getpixel_eq, getpixel_eq] at hpixel
  exact BitVec.ofBool_eq_iff_eq.mp hpixel

theorem getpixel_clrcol (f : Buffer) (c k c' : Fin 8) :
    getpixel (clrcol f c) k c' = if c' = c then 0 else getpixel f k c' := by
  by_cases h : c' = c
  · rw [if_pos h, getpixel_eq, clrcol_row, clrbit_getLsbD, h]
    simp
  · rw [if_neg h, getpixel_clrcol_other f k h]

theorem getpixel_setcol (f : Buffer) (c k c' : Fin 8) (b : Byte) :
    getpixel (setcol f c b) k c' =
      if c' = c then BitVec.ofBool (b.getLsbD (7 - k.val)) else getpixel f k c' := by
  by_cases h : c' = c
  · rw [if_pos h, h, getpixel_eq, setcol_row]
    cases b.getLsbD (7 - k.val) <;> simp [setbit_getLsbD, clrbit_getLsbD]
  · rw [if_neg h, getpixel_setcol_other f b k h]

theorem getpixel_set_row (f : Buffer) (r c k : Fin 8) (b : Byte) :
    getpixel (f.set r b) k c = if k = r then BitVec.ofBool (b.getLsbD (7 - c.val)) else getpixel f k c := by
  by_cases h : k = r
  · simp [getpixel_eq, h]
  · have hne : r.val ≠ k.val := Fin.val_ne_of_ne (Ne.symm h)
    simp [getpixel_eq, h, Vector.getElem_set_ne r.isLt k.isLt hne]

theorem columnBit_getLsbD (f : Buffer) (c i k : Fin 8) :
    (columnBit f c i).getLsbD (7 - k.val) = (decide (k = i) && (getpixel f k c).getLsbD 0) := by
  by_cases h : k = i
  · subst h
    have hk : 7 - k.val < 8 := by omega
    simp [columnBit, hk]
  · have hne : k.val ≠ i.val := Fin.val_ne_of_ne h
    by_cases hlt : 7 - k.val < 7 - i.val
    · simp [columnBit, h, hlt]
    · have hbit : 1 ≤ 7 - k.val - (7 - i.val) := by omega
      simp [columnBit, h, BitVec.getLsbD_of_ge _ _ hbit]

theorem getcol_getLsbD (f : Buffer) (c k : Fin 8) :
    (getcol f c).getLsbD (7 - k.val) = (getpixel f k c).getLsbD 0 := by
  simp only [getcol, BitVec.getLsbD_or, columnBit_getLsbD]
  fin_cases k <;> simp

theorem ofBool_getLsbD_zero (p : BitVec 1) : BitVec.ofBool (p.getLsbD 0) = p := by
  revert p
  decide

/-- Columns with the same pixels are the same byte. -/
theorem getcol_congr {f g : Buffer} {c d : Fin 8} (h : ∀ k, getpixel f k c = getpixel g k d) :
    getcol f c = getcol g d :=
  byte_ext_pixel fun k => by rw [getcol_getLsbD, getcol_getLsbD, h]

/-! ## The laws of the column functions (R88) -/

theorem getcol_setcol_same (f : Buffer) (c : Fin 8) (b : Byte) : getcol (setcol f c b) c = b :=
  byte_ext_pixel fun k => by simp [getcol_getLsbD, getpixel_setcol]

theorem clrcol_setcol (f : Buffer) (c : Fin 8) (b : Byte) : clrcol (setcol f c b) c = clrcol f c := by
  refine buffer_ext_getpixel fun k c' => ?_
  by_cases h : c' = c <;> simp [getpixel_clrcol, getpixel_setcol, h]

theorem getcol_clrcol_same (f : Buffer) (c : Fin 8) : getcol (clrcol f c) c = 0x00 :=
  byte_ext_pixel fun k => by simp [getcol_getLsbD, getpixel_clrcol]

theorem setcol_setcol_same (f : Buffer) (c : Fin 8) (b b' : Byte) :
    setcol (setcol f c b) c b' = setcol f c b' := by
  refine buffer_ext_getpixel fun k c' => ?_
  by_cases h : c' = c <;> simp [getpixel_setcol, h]

theorem setcol_getcol (f : Buffer) (c : Fin 8) : setcol f c (getcol f c) = f := by
  refine buffer_ext_getpixel fun k c' => ?_
  by_cases h : c' = c
  · rw [getpixel_setcol, if_pos h, getcol_getLsbD, ofBool_getLsbD_zero, h]
  · rw [getpixel_setcol, if_neg h]

theorem setcol_comm (f : Buffer) {c c' : Fin 8} (b b' : Byte) (h : c' ≠ c) :
    setcol (setcol f c b) c' b' = setcol (setcol f c' b') c b := by
  refine buffer_ext_getpixel fun k d => ?_
  by_cases hd : d = c
  · simp [getpixel_setcol, hd, h.symm]
  · simp [getpixel_setcol, hd]

/-- Settles O9: each law compares the pixels of the two sides. -/
theorem columnLaws : Obligations.ColumnLaws := fun f c _ b b' =>
  ⟨getcol_setcol_same f c b, clrcol_setcol f c 0xFF, getcol_clrcol_same f c,
    fun h => getcol_congr fun k => getpixel_setcol_other f b k h,
    setcol_setcol_same f c b b', setcol_getcol f c, setcol_comm f b b'⟩

/-! ## The transpose (R89) -/

theorem transpose_row (f : Buffer) (c : Fin 8) : (transpose f)[c] = getcol f c := by
  simp [transpose]

theorem getpixel_transpose (f : Buffer) (c k : Fin 8) : getpixel (transpose f) c k = getpixel f k c := by
  rw [getpixel_eq, transpose_row, getcol_getLsbD, ofBool_getLsbD_zero]

theorem transpose_transpose (f : Buffer) : transpose (transpose f) = f :=
  buffer_ext_getpixel fun k c => by rw [getpixel_transpose, getpixel_transpose]

/-- Writing a column is writing a row of the transpose. -/
theorem setcol_eq_transpose_set (f : Buffer) (c : Fin 8) (b : Byte) :
    setcol f c b = transpose ((transpose f).set c b) :=
  buffer_ext_getpixel fun k c' => by
    rw [getpixel_setcol, getpixel_transpose, getpixel_set_row, getpixel_transpose]

/-- Settles O10: transposing exchanges the two indices of a pixel. -/
theorem transposeLaws : Obligations.TransposeLaws := fun f c k b =>
  ⟨getcol_getLsbD f c k, transpose_row f c, getpixel_transpose f c k, transpose_transpose f,
    setcol_eq_transpose_set f c b⟩

/-! ## The data messages (R91 to R93) -/

theorem fullBytes_even (w : Buffer) (i : Fin 8) : (fullBytes w)[2 * i.val]? = some 0x00 := by
  obtain ⟨_ | k, hi⟩ := i
  · rfl
  · exact fullBytes_filler w (by omega)

theorem pack16_odd (f : Buffer) (i : Fin 8) : (pack16 f)[2 * i.val + 1]? = some (rotr8 f[i]) := by
  simp [pack16, fullBytes_odd]

/-- Settles O12: the fillers and wire bytes of a full write, and the address of a row. -/
theorem dataMessageLayout : Obligations.DataMessageLayout := by
  intro f
  refine ⟨rfl, fun i => ⟨fullBytes_even _ i, pack16_odd f i, ?_⟩, fun r => ?_⟩
  · rw [pack16_odd, Option.map_some, rotl8_rotr8]
  · rw [rowmsg, rowAddr_rowBits]

end Sys2Proof.Machine
end

section
/-! INIT Send by Send (41_init R100, R101): the block in front of each of its Sends, the earlier ones answered ok. -/

namespace Sys2Proof.Machine

/-! ## The replies that are taken -/

theorem taken_succ (s : State) (n : Nat) : taken s (n + 1) = (taken s n).takeReply :=
  Function.iterate_succ_apply' _ _ _

theorem taken_rsp (s : State) (n : Nat) : (taken s n).rsp = s.rsp := by
  induction n with
  | zero => rfl
  | succ n ih => rw [taken_succ, State.takeReply_rsp, ih]

/-! ## The full write of the dark buffer -/

theorem pack16_clearRows : pack16 clearRows = List.replicate 16 0x00 := rfl

theorem Memory.read_dark (ram : Memory) {a : Nat} (ha : a < 15) :
    (ram.writeFrom 0 (pack16 clearRows).tail).read a = some 0x00 := by
  have hread := Memory.read_writeFrom_inside (List.replicate 15 0x00#8) ram 0 a (by simpa using ha)
  rw [Nat.zero_add, List.getElem_replicate] at hread
  rwa [pack16_clearRows, List.tail_replicate]

theorem Memory.read_pack16_above (ram : Memory) (f : Buffer) {a : Nat} (ha : 15 ≤ a) :
    (ram.writeFrom 0 (pack16 f).tail).read a = ram.read a :=
  Memory.read_full_above ram _ ha

/-! ## The messages of INIT at the device -/

theorem initMessages_eq (brightness : Byte) : initMessages brightness =
    [[oscByte], [brightnessByte (levelOf brightness)], pack16 clearRows, [displayOnByte 0]] := rfl

/-- The device `d` once it has taken the first `n` messages of INIT (R44, R100). -/
def initDevice (d : Device) (brightness : Byte) : Nat → Device
  | 0 => d
  | 1 => { d with osc := true }
  | 2 => { d with osc := true, dim := levelOf brightness }
  | 3 => { d with osc := true, dim := levelOf brightness,
                  ram := d.ram.writeFrom 0 (pack16 clearRows).tail }
  | _ => { osc := true, dispOn := true, dispBlink := 0, dim := levelOf brightness,
           ram := d.ram.writeFrom 0 (pack16 clearRows).tail }

theorem receive_initDevice (d : Device) {brightness : Byte} {n : Nat} {m : Message}
    (hm : (initMessages brightness)[n]? = some m) :
    (initDevice d brightness n).receive m = some (initDevice d brightness (n + 1)) := by
  match n with
  | 0 => obtain rfl := Option.some.inj hm; exact Device.receive_osc _
  | 1 => obtain rfl := Option.some.inj hm; exact Device.receive_brightness _ _
  | 2 => obtain rfl := Option.some.inj hm; exact Device.receive_pack16 _ clearRows
  | 3 => obtain rfl := Option.some.inj hm; exact Device.receive_displayOn _ 0
  | n + 4 => simp [initMessages] at hm

theorem sameOutside_osc {d e : Device} (h : SameOutside [oscByte] d e) :
    e.dim = d.dim ∧ e.dispOn = d.dispOn ∧ e.dispBlink = d.dispBlink ∧ e.ram = d.ram := by
  obtain ⟨h, -⟩ := h
  rw [h rfl]
  exact ⟨rfl, rfl, rfl, rfl⟩

theorem sameOutside_full {w : Buffer} {d e : Device} (h : SameOutside (fullBytes w) d e) :
    e = { d with ram := e.ram } ∧ ∀ a, 15 ≤ a → e.ram.read a = d.ram.read a := by
  obtain ⟨-, -, -, -, -, h⟩ := h
  exact h w rfl

/-! ## The block in front of each Send -/

/-- The block that runs INIT from `s`, once the first `n` Sends have been answered ok. -/
def initState (s : State) (brightness : Byte) (address : BusAddress) (n : Nat) (isOn : Bool) (phase : BitVec 3) :
    State :=
  { taken s n with
    fb := clearRows, isOn := isOn, blink := 0, addr := address, inited := false, phase := phase,
    tx := s.tx ++ ((initMessages brightness).take n).map fun m => ⟨address, m, .ok⟩,
    dev := initDevice s.dev brightness n }

/-- The body of INIT from Send number `n` on, with the writes behind the last Send for `n = 4`. -/
def initFrom (brightness : Byte) (address : BusAddress) (n : Nat) : List Micro :=
  (initBody brightness address).drop
    (match n with
     | 0 => 1
     | 1 => 2
     | 2 => 4
     | 3 => 6
     | _ => 7)

section
variable {s : State} {brightness : Byte} {address : BusAddress} {n : Nat} {isOn : Bool} {phase : BitVec 3}

theorem initState_sendOk {m : Message} (hm : (initMessages brightness)[n]? = some m) :
    ((initState s brightness address n isOn phase).sendOk m).advance =
      initState s brightness address (n + 1) isOn (phase + 1) := by
  have hdev := receive_initDevice s.dev hm
  simp [initState, State.sendOk, State.record, State.deliver, State.advance, State.takeReply, taken_succ,
    List.take_add_one, hm, hdev]

theorem initState_reply : (initState s brightness address n isOn phase).reply = coming s n := rfl

/-- Send number `n` is the next micro-step, its message is INIT's message number `n`, and behind it the body comes to
the next Send by at most one write: IS_ON <- 1 before the last (R100). -/
theorem initFrom_send {m : Message} (hm : (initMessages brightness)[n]? = some m) :
    ∃ msg rest, initFrom brightness address n = .send msg :: rest ∧
      (∀ isOn phase, msg (initState s brightness address n isOn phase) = m) ∧
      ∀ phase, ∃ phase', runBody rest (initState s brightness address (n + 1) (decide (3 ≤ n)) phase) =
        runBody (initFrom brightness address (n + 1))
          (initState s brightness address (n + 1) (decide (3 ≤ n + 1)) phase') := by
  rw [initMessages_eq] at hm
  match n with
  | 0 => exact ⟨_, _, rfl, fun _ _ => Option.some.inj hm, fun phase => ⟨phase, rfl⟩⟩
  | 1 => exact ⟨_, _, rfl, fun _ _ => Option.some.inj hm, fun phase => ⟨phase + 1, rfl⟩⟩
  | 2 => exact ⟨_, _, rfl, fun _ _ => Option.some.inj hm, fun phase => ⟨phase + 1, rfl⟩⟩
  | 3 => exact ⟨_, _, rfl, fun _ _ => Option.some.inj hm, fun phase => ⟨phase, rfl⟩⟩
  | n + 4 => simp at hm

/-- A Send answered ok leads to the next one. -/
theorem runBody_initFrom_ok (hn : n < 4) (hok : coming s n = .answered .ok) :
    ∃ phase', runBody (initFrom brightness address n)
        (initState s brightness address n (decide (3 ≤ n)) phase) =
      runBody (initFrom brightness address (n + 1))
        (initState s brightness address (n + 1) (decide (3 ≤ n + 1)) phase') := by
  have hm : (initMessages brightness)[n]? = some _ := List.getElem?_eq_getElem hn
  obtain ⟨msg, rest, hfrom, hmsg, hrest⟩ := initFrom_send (s := s) (address := address) hm
  obtain ⟨phase', hrest⟩ := hrest (phase + 1)
  refine ⟨phase', ?_⟩
  rw [hfrom, runBody_send_ok (initState_reply.trans hok), hmsg, initState_sendOk hm, hrest]

theorem runBody_initFrom_err {m : Message} {kind : TransportKind} (hm : (initMessages brightness)[n]? = some m)
    (herr : coming s n = .answered (.err kind)) :
    runBody (initFrom brightness address n) (initState s brightness address n isOn phase) =
      ((initState s brightness address n isOn phase).sendErr m kind).raise (.transportError kind) := by
  obtain ⟨msg, rest, hfrom, hmsg, -⟩ := initFrom_send (s := s) (address := address) hm
  rw [hfrom, runBody_send_err (initState_reply.trans herr), hmsg]

/-- INIT with its first `n` Sends answered ok comes to what is behind them. -/
theorem runBody_initBody_reaches (hn : n ≤ 4) (hok : ∀ k, k < n → coming s k = .answered .ok) :
    ∃ phase, runBody (initBody brightness address) s =
      runBody (initFrom brightness address n) (initState s brightness address n (decide (3 ≤ n)) phase) := by
  induction n with
  | zero =>
    refine ⟨s.phase + 1, ?_⟩
    rw [initState, List.take_zero, List.map_nil, List.append_nil]
    rfl
  | succ n ih =>
    obtain ⟨phase, hbody⟩ := ih (by omega) fun k hk => hok k (by omega)
    obtain ⟨phase', hsend⟩ := runBody_initFrom_ok (phase := phase) (by omega) (hok n (by omega))
    exact ⟨phase', hbody.trans hsend⟩

/-- A legal INIT is its body. -/
theorem exec_init (hb : brightness.toNat ≤ 15) :
    exec (.init brightness address) s = .next (runBody (initBody brightness address) s) :=
  exec_checked rfl (by simp [checkOf, initCheck, checkLevel, checkA_legal hb])

theorem exec_init_illegal (hb : 15 < brightness.toNat) :
    exec (.init brightness address) s = .next (answered s .invalidArgument 1) := by
  rw [exec_request rfl]
  simp only [checkOf, initCheck, checkLevel, checkA_illegal hb, Option.map_some, runChecked_some]
  rfl

/-- What INIT has told the device stays told when its Send number `n` fails: only what that message covers is free. -/
theorem initDevice_sameOutside {d e : Device} {m : Message} (hm : (initMessages brightness)[n]? = some m)
    (h : SameOutside m (initDevice d brightness n) e) :
    (0 < n → e.osc = true) ∧ (n = 0 → e.dim = d.dim) ∧ (1 < n → e.dim = levelOf brightness) ∧
      (n < 3 → e.dispOn = d.dispOn ∧ e.dispBlink = d.dispBlink) ∧ (n < 2 → e.ram = d.ram) ∧
      (n = 3 → ∀ a, a < 15 → e.ram.read a = some 0x00) ∧ ∀ a, 15 ≤ a → e.ram.read a = d.ram.read a := by
  rw [initMessages_eq] at hm
  match n with
  | 0 =>
    obtain rfl := Option.some.inj hm
    obtain ⟨hdim, hon, hblink, hram⟩ := sameOutside_osc h
    simp [initDevice, hdim, hon, hblink, hram]
  | 1 =>
    obtain rfl := Option.some.inj hm
    obtain ⟨hosc, hon, hblink, hram⟩ := sameOutside_brightness h
    simp [initDevice, hosc, hon, hblink, hram]
  | 2 =>
    obtain rfl := Option.some.inj hm
    obtain ⟨hdev, hread⟩ := sameOutside_full h
    rw [hdev]
    simpa [initDevice] using hread
  | 3 =>
    obtain rfl := Option.some.inj hm
    obtain ⟨hosc, hdim, hram⟩ := sameOutside_displayOn h
    simp +contextual [initDevice, hosc, hdim, hram, Memory.read_dark, Memory.read_pack16_above]
  | n + 4 => simp at hm

end

/-! ## The word of INIT -/

/-- The address of INIT is B[6:0] below a zero B[7] (R51). -/
theorem decodeRequest_init_address (brightness : Byte) (address : BusAddress) (p : Payload) :
    decodeRequest (0x01#8 ++ brightness ++ (0#1 ++ address)) p = .ok (.init brightness address) := by
  have haddress : 0#1 ++ address = address.setWidth 8 := (BitVec.setWidth_eq_append (by decide)).symm
  calc decodeRequest (0x01#8 ++ brightness ++ (0#1 ++ address)) p
      = decodeRequest (0x01#8 ++ brightness ++ address.setWidth 8) p := by rw [haddress]
    _ = decodeRequest (commandWord 0x01 brightness (address.setWidth 8)) 0 :=
      decodeRequest_ignores_payload (by decide) _ _ _ _
    _ = .ok (.init brightness address) := decodeRequest_encode_init brightness address

/-! ## The obligations -/

/-- Settles O22: behind four Sends answered ok only the write of INITED is left, and the device has taken all four
messages. -/
theorem initBringsUpTheBlock : Obligations.InitBringsUpTheBlock := by
  intro s brightness address p
  refine ⟨decodeRequest_init_address brightness address p, fun b hb => ?_, exec_init_illegal, fun hb hok => ?_⟩
  · rw [decodeRequest_init, exists_requireZero_eq_error, hb]
    rfl
  · obtain ⟨phase, hbody⟩ := runBody_initBody_reaches (brightness := brightness) (address := address) le_rfl hok
    refine ⟨phase + 1, s.dev.ram.writeFrom 0 (pack16 clearRows).tail, ?_,
      fun a ha => Memory.read_dark _ ha, fun a ha => Memory.read_pack16_above _ _ ha⟩
    rw [exec_init hb, hbody]
    rfl

/-- Settles O23: the Sends before number `n` lead to it, and it fails. -/
theorem initCutShort : Obligations.InitCutShort := by
  intro s brightness address n kind hb hok herr
  obtain ⟨m, hm⟩ : ∃ m, (initMessages brightness)[n.val]? = some m := ⟨_, List.getElem?_eq_getElem n.isLt⟩
  obtain ⟨phase, hbody⟩ := runBody_initBody_reaches (brightness := brightness) (address := address) (by omega) hok
  have hon : decide (3 ≤ n.val) = decide (n.val = 3) := by rw [decide_eq_decide]; omega
  have hdev := initDevice_sameOutside hm
    (Device.garble_sameOutside (initDevice s.dev brightness n) (taken s (n.val + 1)).draws m)
  refine ⟨phase, _, (taken s (n.val + 1)).draws + 1, ?_, hdev⟩
  rw [exec_init hb, hbody, runBody_initFrom_err hm herr, hm, hon, taken_succ, ← taken_rsp s n]
  rfl

end Sys2Proof.Machine
end

section
/-! The column operations (42_column R110, R111), with the rules they share with other operations: what a request that
fails its checks answers, and what a request that writes the frame buffer and sends all of it does to the block. -/

namespace Sys2Proof.Machine

/-! ## Requests that fail their checks (R57, R154) -/

theorem exec_notInitialised {i : Instr} {s : State} {bad : Option Which} (hi : i.isRequest = true)
    (hc : checkOf i s = gateAndOperands s bad) (hs : s.inited = false) :
    exec i s = .next (answered s .notInitialised 0) := by
  rw [exec_request hi, hc, gateAndOperands_notInitialised hs, runChecked_some]
  rfl

theorem exec_index_illegal {i : Instr} {s : State} {a : Byte} (hi : i.isRequest = true)
    (hc : checkOf i s = gateAndOperands s (checkIndex a)) (hs : s.inited = true) (ha : 7 < a.toNat) :
    exec i s = .next (answered s .invalidArgument 1) := by
  rw [exec_request hi, hc, gateAndOperands_inited hs, checkIndex, checkA_illegal ha, Option.map_some, runChecked_some]
  rfl

/-! ## Requests that write the frame buffer and send all of it (R91) -/

theorem fullOperation_of_body {i : Instr} {s : State} {b : Buffer} {f : State → State} (hi : i.isRequest = true)
    (hc : checkOf i s = none) (hbody : bodyOf i s = [.write f, sendFull]) (hf : f s = writeRows b s) :
    FullOperation i s b := by
  have hexec : exec i s = .next (runBody [sendFull] (writeRows b s).advance) := by
    rw [exec_checked hi hc, hbody, runBody_write, hf]
  have hreply : (writeRows b s).advance.reply = s.reply := rfl
  refine ⟨fun hok => ⟨s.phase + 1 + 1, (s.dev.receive (pack16 b)).getD s.dev, ?_⟩,
    fun kind herr => ⟨s.phase + 1, s.dev.garble s.takeReply.draws (pack16 b), s.takeReply.draws + 1, ?_⟩⟩
  · rw [hexec, sendFull, runBody_send_ok (hreply.trans hok), runBody_nil]
    rfl
  · rw [hexec, sendFull, runBody_send_err (hreply.trans herr)]
    rfl

/-! ## The columns as R110 and R111 write them -/

theorem setcol_eq_ofFn (f : Buffer) (c : Fin 8) (b : Byte) :
    setcol f c b = Vector.ofFn fun k : Fin 8 =>
      (f[k] &&& ~~~(0x80#8 >>> c.val)) ||| (((b >>> (7 - k.val)) &&& 1#8) <<< (7 - c.val)) := by
  obtain ⟨-, hrow⟩ := columnFunctionsPixelByPixel f c b
  ext k hk : 1
  rw [Vector.getElem_ofFn]
  exact hrow ⟨k, hk⟩

theorem clrcol_eq_ofFn (f : Buffer) (c : Fin 8) :
    clrcol f c = Vector.ofFn fun k : Fin 8 => f[k] &&& ~~~(0x80#8 >>> c.val) := rfl

/-! ## The obligations -/

/-- Settles O24: SET_COLUMN writes `setcol` of the buffer, which is the column of R110. -/
theorem setColumnWritesTheColumn : Obligations.SetColumnWritesTheColumn := by
  intro s column byte p
  refine ⟨decodeRequest_setColumn column byte p, exec_notInitialised rfl rfl, exec_index_illegal rfl rfl,
    fun hs c hc => ?_⟩
  obtain rfl := index_of_toNat hc
  rw [← setcol_eq_ofFn]
  exact fullOperation_of_body rfl (gate_index_none hs hc) rfl rfl

/-- Settles O25: CLEAR_COLUMN writes `clrcol` of the buffer, which is the column of R111. -/
theorem clearColumnClearsTheColumn : Obligations.ClearColumnClearsTheColumn := by
  intro s column p
  refine ⟨?_, fun b hb => ?_, exec_notInitialised rfl rfl, exec_index_illegal rfl rfl, fun hs c hc => ?_⟩
  · exact decodeRequest_clearColumn column 0x00 p
  · rw [decodeRequest_clearColumn, exists_requireZero_eq_error]
    exact beq_false_of_ne hb
  · obtain rfl := index_of_toNat hc
    rw [← clrcol_eq_ofFn]
    exact fullOperation_of_body rfl (gate_index_none hs hc) rfl rfl

end Sys2Proof.Machine
end

section
/-! The row and pixel operations (43_row_pixel R120 to R123): what a request with an illegal pixel answers, and what a
request that writes one row and sends it does to the block. -/

namespace Sys2Proof.Machine

/-! ## Requests that name an illegal pixel (R57) -/

section
variable {i : Instr} {s : State} {a b : Byte} (hi : i.isRequest = true)
  (hc : checkOf i s = gateAndOperands s (checkPixel a b)) (hs : s.inited = true)
include hi hc hs

theorem exec_pixel_illegal {which : Which} (hab : checkPixel a b = some which) :
    exec i s = .next (s.raise (.invalidArgument which)) := by
  rw [exec_request hi, hc, gateAndOperands_inited hs, hab, Option.map_some, runChecked_some]

/-- The row is checked first: INFO is 1 whatever the column is. -/
theorem exec_pixel_row_illegal (ha : 7 < a.toNat) : exec i s = .next (answered s .invalidArgument 1) := by
  have hab : checkPixel a b = some .operandA := if_neg (Nat.not_le.mpr ha)
  rw [exec_pixel_illegal hi hc hs hab]
  rfl

theorem exec_pixel_column_illegal (ha : a.toNat ≤ 7) (hb : 7 < b.toNat) :
    exec i s = .next (answered s .invalidArgument 2) := by
  have hab : checkPixel a b = some .operandB := by rw [checkPixel, if_pos ha, if_neg (Nat.not_le.mpr hb)]
  rw [exec_pixel_illegal hi hc hs hab]
  rfl

end

/-! ## Requests that write one row and send it (R92) -/

theorem rowOperation_of_body {i : Instr} {s : State} {r : Fin 8} {v : Byte} {f : State → State} {m : State → Message}
    (hi : i.isRequest = true) (hc : checkOf i s = none) (hbody : bodyOf i s = [.write f, .send m])
    (hf : f s = writeRow r v s) (hm : m (writeRow r v s).advance = [rowAddr (rowBits r), rotr8 v]) :
    RowOperation i s r v := by
  have hexec : exec i s = .next (runBody [.send m] (writeRow r v s).advance) := by
    rw [exec_checked hi hc, hbody, runBody_write, hf]
  have hreply : (writeRow r v s).advance.reply = s.reply := rfl
  rw [RowOperation, ← rowAddr_rowBits, ← hm]
  refine ⟨fun hok => ⟨s.phase + 1 + 1, (s.dev.receive (m (writeRow r v s).advance)).getD s.dev, ?_⟩, fun kind herr =>
    ⟨s.phase + 1, s.dev.garble s.takeReply.draws (m (writeRow r v s).advance), s.takeReply.draws + 1, ?_⟩⟩
  · rw [hexec, runBody_send_ok (hreply.trans hok), runBody_nil]
    rfl
  · rw [hexec, runBody_send_err (hreply.trans herr)]
    rfl

/-- A request that changes one pixel of its row by `g`. -/
theorem rowOperation_of_pixel {i : Instr} {s : State} {row column : Byte} {r c : Fin 8} {g : Byte → Fin 8 → Byte}
    (hi : i.isRequest = true) (hcheck : checkOf i s = gateAndOperands s (checkPixel row column))
    (hbody : bodyOf i s =
      [.write fun u => writeRow (index row) (g (readRow (index row) u) (index column)) u, sendRow (index row)])
    (hs : s.inited = true) (hr : row.toNat = r.val) (hc : column.toNat = c.val) : RowOperation i s r (g s.fb[r] c) := by
  have hnone := hcheck.trans (gate_pixel_none hs hr hc)
  obtain rfl := index_of_toNat hr
  obtain rfl := index_of_toNat hc
  exact rowOperation_of_body hi hnone hbody rfl (rowmsg_writeRow s _ _)

/-! ## The obligations -/

/-- Settles O26: SET_ROW writes its byte to the row of its operand, and the message is built from the new row. -/
theorem setRowWritesTheRow : Obligations.SetRowWritesTheRow := by
  intro s row byte p
  refine ⟨decodeRequest_setRow row byte p, exec_notInitialised rfl rfl, exec_index_illegal rfl rfl, fun hs r hr => ?_⟩
  obtain rfl := index_of_toNat hr
  exact rowOperation_of_body rfl (gate_index_none hs hr) rfl rfl (rowmsg_writeRow s _ _)

/-- Settles O27: the message of CLEAR_ROW, written out in R121, is the one of a dark row, as `rotr8` keeps 0x00; that
CLEAR_ROW is SET_ROW with 0x00 is part of O32. -/
theorem clearRowClearsTheRow : Obligations.ClearRowClearsTheRow := by
  intro s row p
  obtain ⟨hsetRow, -, -⟩ := pseudoOperations s row 0x00
  refine ⟨decodeRequest_clearRow row 0x00 p, fun b hb => ?_, exec_notInitialised rfl rfl, exec_index_illegal rfl rfl,
    fun hs r hr => ?_, hsetRow⟩
  · rw [decodeRequest_clearRow, exists_requireZero_eq_error]
    exact beq_false_of_ne hb
  · have hdark : rotr8 0x00 = 0x00 := by decide
    obtain rfl := index_of_toNat hr
    exact rowOperation_of_body rfl (gate_index_none hs hr) rfl rfl (by rw [hdark])

/-- Settles O28: SET_PIXEL writes `setbit` of the row as it was, which is the value of R122. -/
theorem setPixelSetsThePixel : Obligations.SetPixelSetsThePixel := by
  intro s row column p
  refine ⟨decodeRequest_setPixel row column p, exec_notInitialised rfl rfl,
    exec_pixel_row_illegal rfl rfl, exec_pixel_column_illegal rfl rfl, fun hs r c hr hc => ?_⟩
  exact rowOperation_of_pixel (g := setbit) rfl rfl rfl hs hr hc

/-- Settles O29: CLEAR_PIXEL writes `clrbit` of the row as it was, which is the value of R123. -/
theorem clearPixelClearsThePixel : Obligations.ClearPixelClearsThePixel := by
  intro s row column p
  refine ⟨decodeRequest_clearPixel row column p, exec_notInitialised rfl rfl,
    exec_pixel_row_illegal rfl rfl, exec_pixel_column_illegal rfl rfl, fun hs r c hr hc => ?_⟩
  exact rowOperation_of_pixel (g := clrbit) rfl rfl rfl hs hr hc

end Sys2Proof.Machine
end

section
/-! The operations on the whole buffer (44_full_buffer R130, R131): with no operand to check, the gate is their only
check, and what they load is the payload or the dark buffer. -/

namespace Sys2Proof.Machine

/-- A word whose A and B must be zero and are not (R54). -/
theorem exists_requireZero_fields_eq_error {a b : Byte} (h : a ≠ 0x00 ∨ b ≠ 0x00) (i : Instr) :
    ∃ e, requireZero (a == 0 && b == 0) i = .error e := by
  rw [exists_requireZero_eq_error, Bool.and_eq_false_iff]
  exact h.imp beq_false_of_ne beq_false_of_ne

/-- Settles O30: SET writes `payloadRows` of its bitmap, which are the rows of R130. -/
theorem setLoadsTheBitmap : Obligations.SetLoadsTheBitmap := by
  intro s p
  refine ⟨decodeRequest_set 0x00 0x00 p, fun a b hab => ?_, exec_notInitialised rfl rfl, fun hs => ?_⟩
  · rw [decodeRequest_set]
    exact exists_requireZero_fields_eq_error hab (.set p)
  · exact fullOperation_of_body (b := payloadRows p) rfl (gate_none hs) rfl rfl

/-- Settles O31: CLEAR writes the dark buffer, whose message is sixteen zero bytes. -/
theorem clearClearsTheBuffer : Obligations.ClearClearsTheBuffer := by
  intro s p
  refine ⟨decodeRequest_clear 0x00 0x00 p, fun a b hab => ?_, exec_notInitialised rfl rfl, fun hs => ?_,
    pack16_clearRows⟩
  · rw [decodeRequest_clear]
    exact exists_requireZero_fields_eq_error hab .clear
  · exact fullOperation_of_body (b := clearRows) rfl (gate_none hs) rfl rfl

end Sys2Proof.Machine
end

section
/-! Display state control (45_display_control R140 to R144): what a request that writes the shadow registers and sends
one command byte does to the block, and the latch of the blink mode. -/

namespace Sys2Proof.Machine

/-! ## Requests whose operand A is too great (R57) -/

theorem exec_operandA_illegal {i : Instr} {s : State} {a : Byte} {greatest : Nat} (hi : i.isRequest = true)
    (hc : checkOf i s = gateAndOperands s (checkA a greatest)) (hs : s.inited = true) (ha : greatest < a.toNat) :
    exec i s = .next (answered s .invalidArgument 1) := by
  rw [exec_request hi, hc, gateAndOperands_inited hs, checkA_illegal ha, Option.map_some, runChecked_some]
  rfl

theorem gate_operandA_none {s : State} {a : Byte} {greatest : Nat} (hs : s.inited = true) (ha : a.toNat ≤ greatest) :
    gateAndOperands s (checkA a greatest) = none :=
  gateAndOperands_eq_none.mpr ⟨hs, checkA_legal ha⟩

/-! ## Requests that end in the Send of one command byte -/

/-- The writes in front of the Send leave `isOn` and `blink` in the shadow registers, and the Send reads them there. -/
theorem commandOperation_of_body {i : Instr} {s : State} {isOn : Bool} {blink : BitVec 2} {phase : BitVec 3} {b : Byte}
    {m : State → Message} (hi : i.isRequest = true) (hc : checkOf i s = none)
    (hbody : runBody (bodyOf i s) s = runBody [.send m] { s with isOn := isOn, blink := blink, phase := phase })
    (hm : m { s with isOn := isOn, blink := blink, phase := phase } = [b]) : CommandOperation i s isOn blink b := by
  have hexec := (exec_checked hi hc).trans (congrArg Host.Outcome.next hbody)
  have hreply : { s with isOn := isOn, blink := blink, phase := phase }.reply = s.reply := rfl
  refine ⟨fun hok => ⟨phase + 1, (s.dev.receive [b]).getD s.dev, ?_⟩,
    fun kind herr => ⟨phase, s.dev.garble s.takeReply.draws [b], s.takeReply.draws + 1, ?_⟩⟩
  · rw [hexec, runBody_send_ok (hreply.trans hok), runBody_nil, hm]
    rfl
  · rw [hexec, runBody_send_err (hreply.trans herr), hm]
    rfl

section
variable {s : State} (hs : s.inited = true)
include hs

theorem on_commandOperation : CommandOperation .on s true s.blink (displayOnByte s.blink) :=
  commandOperation_of_body (phase := s.phase + 1) (m := fun u => [displayOnByte u.blink]) rfl (gate_none hs) rfl rfl

theorem off_commandOperation : CommandOperation .off s false s.blink displayOffByte :=
  commandOperation_of_body (phase := s.phase + 1) (m := fun _ => [displayOffByte]) rfl (gate_none hs) rfl rfl

theorem setBrightness_commandOperation {level : Byte} (hlevel : level.toNat ≤ 15) :
    CommandOperation (.setBrightness level) s s.isOn s.blink (brightnessByte (levelOf level)) :=
  commandOperation_of_body (phase := s.phase) (m := fun _ => [brightnessByte (levelOf level)]) rfl
    (gate_operandA_none hs hlevel) rfl rfl

/-- While the display is on, the body of ON follows the write of the mode (R143). -/
theorem setBlinking_commandOperation {mode : Byte} (hmode : mode.toNat ≤ 3) (hon : s.isOn = true) :
    CommandOperation (.setBlinking mode) s true (modeOf mode) (displayOnByte (modeOf mode)) := by
  have hbody : bodyOf (.setBlinking mode) s = .write (writeBlink (modeOf mode)) :: onBody := by
    simp [bodyOf, setBlinkingBody, hon]
  exact commandOperation_of_body (phase := s.phase + 1 + 1) (m := fun u => [displayOnByte u.blink]) rfl
    (gate_operandA_none hs hmode) (congrArg (runBody · s) hbody) rfl

/-- While the display is off, the write of the mode is the whole body (R143). -/
theorem exec_setBlinking_off {mode : Byte} (hmode : mode.toNat ≤ 3) (hoff : s.isOn = false) :
    exec (.setBlinking mode) s =
      .next (answered { s with blink := modeOf mode, phase := s.phase + 1 } .ok 0) := by
  have hbody : bodyOf (.setBlinking mode) s = [.write (writeBlink (modeOf mode))] := by
    simp [bodyOf, setBlinkingBody, hoff]
  rw [exec_checked (i := .setBlinking mode) rfl (gate_operandA_none hs hmode), hbody]
  rfl

end

/-- A legal level is its own low four bits, so the byte of R142 is the brightness message of R60. -/
theorem brightnessByte_levelOf {level : Byte} (hlevel : level.toNat ≤ 15) :
    brightnessByte (levelOf level) = 0xE0 ||| level := by
  have hlow : (levelOf level).setWidth 8 = level := by
    apply BitVec.eq_of_toNat_eq
    simp only [levelOf, BitVec.toNat_setWidth, BitVec.extractLsb'_toNat, Nat.shiftRight_zero]
    omega
  rw [brightnessByte, hlow]

/-! ## The latch (R144) -/

/-- A mode stored while the display is off is sent by the next ON. -/
theorem setBlinking_then_on {s : State} (m : BitVec 2) (hs : s.inited = true) (hoff : s.isOn = false)
    (hok : s.reply = .answered .ok) :
    ∃ t u, exec (.setBlinking (m.setWidth 8)) s = .next t ∧ t.tx = s.tx ∧ exec .on t = .next u ∧
      u.tx = s.tx ++ [⟨s.addr, [displayOnByte m], .ok⟩] ∧ u.isOn = true ∧ u.blink = m ∧
      u.rsp = s.rsp ++ [⟨.ok, 0⟩, ⟨.ok, 0⟩] := by
  have hmode : (m.setWidth 8).toNat = m.toNat := BitVec.toNat_setWidth_of_le (by decide)
  have hstore := exec_setBlinking_off (mode := m.setWidth 8) hs (by omega) hoff
  rw [modeOf_of_toNat hmode] at hstore
  obtain ⟨hon, -⟩ :=
    on_commandOperation (s := answered { s with blink := m, phase := s.phase + 1 } .ok 0) hs
  obtain ⟨phase, dev, hon⟩ := hon hok
  exact ⟨_, _, hstore, rfl, hon, rfl, rfl, rfl, List.append_assoc _ _ _⟩

/-- What OFF leaves, answered ok, for the operations behind it. -/
theorem exec_off_ok {s : State} (hs : s.inited = true) (hok : s.reply = .answered .ok) :
    ∃ t, exec .off s = .next t ∧ t.inited = true ∧ t.isOn = false ∧ t.blink = s.blink ∧ t.addr = s.addr ∧
      t.tx = s.tx ++ [⟨s.addr, [displayOffByte], .ok⟩] ∧ t.reply = coming s 1 := by
  obtain ⟨hoff, -⟩ := off_commandOperation hs
  obtain ⟨phase, dev, hoff⟩ := hoff hok
  exact ⟨_, hoff, hs, rfl, rfl, rfl, rfl, rfl⟩

/-! ## The obligations -/

/-- Settles O33: ON writes IS_ON and sends the display-on byte with the cached mode. -/
theorem onTurnsTheDisplayOn : Obligations.OnTurnsTheDisplayOn := by
  intro s p
  refine ⟨decodeRequest_on 0x00 0x00 p, fun a b hab => ?_, exec_notInitialised rfl rfl, on_commandOperation⟩
  rw [decodeRequest_on]
  exact exists_requireZero_fields_eq_error hab .on

/-- Settles O34: OFF writes IS_ON alone, so the mode stays cached. -/
theorem offTurnsTheDisplayOff : Obligations.OffTurnsTheDisplayOff := by
  intro s p
  refine ⟨decodeRequest_off 0x00 0x00 p, fun a b hab => ?_, exec_notInitialised rfl rfl, off_commandOperation⟩
  rw [decodeRequest_off]
  exact exists_requireZero_fields_eq_error hab .off

/-- Settles O35: SET_BRIGHTNESS writes no register, and its byte carries the whole legal level. -/
theorem setBrightnessSendsTheLevel : Obligations.SetBrightnessSendsTheLevel := by
  intro s level p
  refine ⟨decodeRequest_setBrightness level 0x00 p, fun b hb => ?_, exec_notInitialised rfl rfl,
    exec_operandA_illegal rfl rfl, fun hs hlevel => ?_⟩
  · rw [decodeRequest_setBrightness, exists_requireZero_eq_error]
    exact beq_false_of_ne hb
  · rw [← brightnessByte_levelOf hlevel]
    exact setBrightness_commandOperation hs hlevel

/-- Settles O36: the body of SET_BLINKING by IS_ON. -/
theorem setBlinkingStoresTheMode : Obligations.SetBlinkingStoresTheMode := by
  intro s mode p
  refine ⟨decodeRequest_setBlinking mode 0x00 p, fun b hb => ?_, exec_notInitialised rfl rfl,
    exec_operandA_illegal rfl rfl, fun hs m hm => ?_⟩
  · rw [decodeRequest_setBlinking, exists_requireZero_eq_error]
    exact beq_false_of_ne hb
  · have hmode : mode.toNat ≤ 3 := by omega
    obtain rfl := modeOf_of_toNat hm
    exact ⟨setBlinking_commandOperation hs hmode, fun hoff => ⟨_, exec_setBlinking_off hs hmode hoff⟩⟩

/-- Settles O37: with IS_ON = 0 it is the latch itself; with IS_ON = 1, OFF leads to a state where the latch applies. -/
theorem blinkModeIsLatched : Obligations.BlinkModeIsLatched := by
  intro s m hs hok
  refine ⟨fun hoff => setBlinking_then_on m hs hoff hok, fun _ hok' => ?_⟩
  obtain ⟨t, hexec, hinited, hoff, hblink, haddr, htx, hreply⟩ := exec_off_ok hs hok
  obtain ⟨u, v, hstore, -, hon, hsent, hisOn, hmode, -⟩ := setBlinking_then_on m hinited hoff (hreply.trans hok')
  rw [haddr, htx, List.append_assoc] at hsent
  exact ⟨t, u, v, hexec, hblink, hstore, hon, hsent, hisOn, hmode⟩

end Sys2Proof.Machine
end

section
/-! The errors of a request (60_exceptions R150 to R157): which check raises which, and how a body ends. -/

namespace Sys2Proof.Machine

/-! ## The checks in their order (R157) -/

/-- The INITED gate is the first check of every request but INIT (R154). -/
theorem checkOf_notInitialised {i : Instr} {s : State} (hi : i.isRequest = true) (hinit : isInit i = false)
    (hs : s.inited = false) : checkOf i s = some .notInitialised := by
  cases i with
  | init brightness address => simp [isInit] at hinit
  | oscOn | dimming | displayOn | displayOff | rowWrite | fullWrite => simp [Instr.isRequest] at hi
  | _ => exact gateAndOperands_notInitialised hs _

theorem checkA_response (a : Byte) (greatest : Nat) :
    (checkA a greatest).map (fun which => exnResponse (.invalidArgument which)) =
      (if greatest < a.toNat then some 1 else none).map (Response.mk .invalidArgument) := by
  by_cases h : greatest < a.toNat
  · rw [checkA_illegal h, if_pos h]
    rfl
  · rw [checkA_legal (Nat.le_of_not_lt h), if_neg h]
    rfl

theorem checkPixel_response (a b : Byte) :
    (checkPixel a b).map (fun which => exnResponse (.invalidArgument which)) =
      (if 7 < a.toNat then some 1 else if 7 < b.toNat then some 2 else none).map
        (Response.mk .invalidArgument) := by
  simp only [checkPixel, ← Nat.not_le, ite_not]
  split_ifs <;> rfl

/-- Behind the gate the check of a request is the validation table: it raises what `operandError` lists (R57). -/
theorem checkOf_response {i : Instr} {s : State} (hi : i.isRequest = true)
    (hgate : isInit i = true ∨ s.inited = true) :
    (checkOf i s).map exnResponse = (operandError i).map (Response.mk .invalidArgument) := by
  have hgated (hinit : isInit i = false) (bad : Option Which) : (gateAndOperands s bad).map exnResponse =
      bad.map fun which => exnResponse (.invalidArgument which) := by
    rw [gateAndOperands_inited (hgate.resolve_left (by simp [hinit])), Option.map_map]
    rfl
  cases i with
  | init brightness address => exact (Option.map_map ..).trans (checkA_response brightness 15)
  | on | off | set | clear => exact hgated rfl none
  | setBrightness level => exact (hgated rfl _).trans (checkA_response level 15)
  | setBlinking mode => exact (hgated rfl _).trans (checkA_response mode 3)
  | setRow operand | clearRow operand | setColumn operand | clearColumn operand =>
    exact (hgated rfl _).trans (checkA_response operand 7)
  | setPixel row column | clearPixel row column => exact (hgated rfl _).trans (checkPixel_response row column)
  | _ => simp [Instr.isRequest] at hi

/-- A request that a check refuses changes nothing but BUSY and the response (R157). -/
theorem exec_refused {i : Instr} {s : State} {r : Response} (hi : i.isRequest = true)
    (hc : (checkOf i s).map exnResponse = some r) : exec i s = .next (answered s r.status r.info) := by
  obtain ⟨e, he, rfl⟩ := Option.map_eq_some_iff.mp hc
  rw [exec_request hi, he]
  rfl

/-! ## How a body ends (R150, R192) -/

/-- From `s` on the block has come to `t` by waiting for an answer, or by giving one response, of which `P` holds. -/
def WaitsOrResponds (P : Response → Prop) (s t : State) : Prop :=
  (t.busy = true ∧ t.rsp = s.rsp ∧ t.tPort ≠ none) ∨
    (t.busy = false ∧ ∃ r, t.rsp = s.rsp ++ [r] ∧ t.rPort = some r ∧ P r)

/-- The responses of a body: that of an operation that ends well, and that of a Send that failed. -/
def BodyResponse (r : Response) : Prop := r = ⟨.ok, 0⟩ ∨ ∃ kind, r = ⟨.transportError, kindCode kind⟩

theorem waitsOrResponds_respond {P : Response → Prop} (s : State) {r : Response} (hr : P r) :
    WaitsOrResponds P s (s.respond r) :=
  .inr ⟨rfl, r, rfl, rfl, hr⟩

theorem runBody_waitsOrResponds {body : List Micro}
    (hwrite : ∀ f, .write f ∈ body → ∀ s : State, (f s).rsp = s.rsp) (s : State) :
    WaitsOrResponds BodyResponse s (runBody body s) := by
  induction body generalizing s with
  | nil => exact waitsOrResponds_respond s (.inl rfl)
  | cons micro rest ih =>
    have ih := ih fun f hf => hwrite f (List.mem_cons_of_mem _ hf)
    cases micro with
    | write f =>
      have hrest := ih (f s).advance
      rw [WaitsOrResponds, State.advance_rsp, hwrite f List.mem_cons_self] at hrest
      exact hrest
    | send m =>
      rcases hr : s.reply with (_ | kind) | _
      · rw [runBody_send_ok hr]
        exact ih (s.sendOk (m s)).advance
      · rw [runBody_send_err hr]
        exact waitsOrResponds_respond (s.sendErr (m s) kind) (.inr ⟨kind, rfl⟩)
      · rw [runBody_send_silent hr]
        exact .inl ⟨rfl, rfl, nofun⟩

theorem runBody_bodyOf_waitsOrResponds (i : Instr) (s : State) :
    WaitsOrResponds BodyResponse s (runBody (bodyOf i s) s) :=
  runBody_waitsOrResponds (fun _ hf u => (bodyOf_write_keeps_traces hf u).2) s

/-! ## The table of responses (R150) -/

/-- The rows of the table of R150, by the numbers that the response port carries. -/
def TableRow (r : Response) : Prop :=
  (statusCode r.status = 0 ∧ r.info = 0) ∨
  (statusCode r.status = 1 ∧ (r.info = 1 ∨ r.info = 2 ∨ r.info = 3)) ∨
  (statusCode r.status = 2 ∧ (r.info = 1 ∨ r.info = 2)) ∨
  (statusCode r.status = 3 ∧ r.info = 0) ∨
  (statusCode r.status = 4 ∧ r.info = 0)

theorem tableRow_ok : TableRow ⟨.ok, 0⟩ := .inl ⟨rfl, rfl⟩

theorem tableRow_exnResponse (e : Exn) : TableRow (exnResponse e) := by
  cases e with
  | transportError kind =>
    have hkind : kindCode kind = 1 ∨ kindCode kind = 2 ∨ kindCode kind = 3 := by cases kind <;> decide
    exact .inr (.inl ⟨rfl, hkind⟩)
  | invalidArgument which =>
    cases which with
    | operandA => exact .inr (.inr (.inl ⟨rfl, .inl rfl⟩))
    | operandB => exact .inr (.inr (.inl ⟨rfl, .inr rfl⟩))
  | illegalOperation => exact .inr (.inr (.inr (.inl ⟨rfl, rfl⟩)))
  | notInitialised => exact .inr (.inr (.inr (.inr ⟨rfl, rfl⟩)))

theorem BodyResponse.tableRow {r : Response} (h : BodyResponse r) : TableRow r := by
  obtain rfl | ⟨kind, rfl⟩ := h
  · exact tableRow_ok
  · exact tableRow_exnResponse (.transportError kind)

/-! ## The response port (R150, R185) -/

theorem State.responsePort_of_some {s : State} {r : Response} (h : s.rPort = some r) :
    s.responsePort = ⟨true, statusCode r.status, r.info⟩ := by
  simp only [State.responsePort, h]

theorem State.responsePort_rValid_eq_false (s : State) : s.responsePort.rValid = false ↔ s.rPort = none := by
  cases h : s.rPort <;> simp [State.responsePort, h]

theorem State.resetBlock_rPort (s : State) : s.resetBlock.rPort = none := by
  obtain ⟨dev, replies, draws, h⟩ := s.resetBlock_eq
  rw [h]
  rfl

/-! ## The obligations -/

/-- Settles O20: each class of request by the check that refuses it, or by how its body ends. -/
theorem errorPriority : Obligations.ErrorPriority := by
  intro s cw p
  refine ⟨fun e he => State.request_undecoded he s, fun i hi => ?_⟩
  have hrequest := decodeRequest_isRequest hi
  rw [State.request_decoded hi]
  refine ⟨fun hinit hs => ?_, fun hgate => ?_⟩
  · exact exec_refused (r := ⟨.notInitialised, 0⟩) hrequest
      (congrArg (Option.map exnResponse) (checkOf_notInitialised hrequest hinit hs))
  · have hcheck := checkOf_response (s := s.accept cw p) hrequest hgate
    refine ⟨fun info hinfo => ?_, fun hlegal => ?_⟩
    · rw [hinfo] at hcheck
      exact exec_refused hrequest hcheck
    · rw [hlegal] at hcheck
      refine ⟨_, exec_checked hrequest (Option.map_eq_none_iff.mp hcheck), ?_⟩
      obtain ⟨hbusy, hrsp, -⟩ | ⟨-, r, hrsp, -, hr⟩ := runBody_bodyOf_waitsOrResponds i (s.accept cw p)
      · exact .inl ⟨hbusy, hrsp⟩
      · exact .inr ⟨r, hrsp, hr⟩

/-- Settles O46: a wire message leaves RSP alone, a refused request gives the response of its error, and a body ends as
`runBody_waitsOrResponds` says. -/
theorem oneResponsePerRequest : Obligations.OneResponsePerRequest := by
  intro i s
  cases hi : i.isRequest with
  | false =>
    obtain ⟨m, hm⟩ := exec_wire hi s
    exact ⟨_, hm, fun _ => rfl, nofun⟩
  | true =>
    refine ⟨_, exec_request hi s, nofun, fun _ => ?_⟩
    change WaitsOrResponds TableRow s _
    cases checkOf i s with
    | some e => exact waitsOrResponds_respond s (tableRow_exnResponse e)
    | none =>
      exact (runBody_bodyOf_waitsOrResponds i s).imp_right fun ⟨hbusy, r, hrsp, hport, hr⟩ =>
        ⟨hbusy, r, hrsp, hport, hr.tableRow⟩

/-- Settles O15: the offer to the idle block is a request, and its word is refused before anything else. -/
theorem illegalWordIsRefused : Obligations.IllegalWordIsRefused := by
  intro s cw p rest e hb ht hin he
  have hlines : s.lines = HostLines.offer cw p := by simp [State.lines, hin]
  have hnext : s.nextLines = { s with inputs := rest } := by simp [State.nextLines, hin]
  have hidle : ({ s with inputs := rest } : State).busy = false := hb
  rw [step_idle_quietPort hb ht, hlines, hnext, State.hostTurn_offer hidle, State.request_undecoded he]
  rfl

/-- Settles O59: the numbers are the tables of the model, and the port shows the response that stands on it. -/
theorem responseCodes : Obligations.ResponseCodes := by
  refine ⟨rfl, rfl, rfl, rfl, rfl, rfl, rfl, rfl, rfl, rfl, rfl, rfl, fun _ => rfl, fun _ _ => ?_, ?_, fun s e => ?_,
    fun s => ?_, fun _ _ _ => rfl, fun s => ?_⟩
  · exact State.responsePort_of_some
  · exact State.responsePort_rValid_eq_false
  · exact State.responsePort_of_some (s := s.raise e) rfl
  · exact State.responsePort_of_some (s := runBody [] s) rfl
  · exact s.resetBlock.responsePort_rValid_eq_false.mpr s.resetBlock_rPort

end Sys2Proof.Machine
end

section
/-! Running a request twice (60_exceptions R162): a message taken twice is a message taken once, and the writes of a
body change nothing when they are done again. -/

namespace Sys2Proof.Machine

/-! ## The device -/

/-- A message that the device has taken changes nothing when it comes again (R44). -/
theorem Device.receive_twice {d e : Device} {m : Message} (h : d.receive m = some e) : e.receive m = some e := by
  unfold Device.receive at h
  split at h
  · split_ifs at h with hosc hdim hon hoff <;> cases h
    · simp only [Device.receive, if_pos hosc]
    · simp only [Device.receive, if_neg hosc, if_pos hdim]
    · simp only [Device.receive, if_neg hosc, if_neg hdim, if_pos hon]
    · simp only [Device.receive, if_neg hosc, if_neg hdim, if_neg hon, if_pos hoff]
  · split_ifs at h with hc
    cases h
    simp only [Device.receive, if_pos hc, Memory.write_write]
  · split_ifs at h with hc
    cases h
    simp only [Device.receive, if_pos hc, Memory.writeFrom_twice]
  · cases h

theorem State.deliver_twice_dev {s t : State} {m : Message} (h : t.dev = (s.deliver m).dev) :
    (t.deliver m).dev = t.dev := by
  rw [State.deliver_dev] at h ⊢
  cases hm : s.dev.receive m with
  | none =>
    rw [hm, Option.getD_none] at h
    rw [h, hm, Option.getD_none]
  | some d =>
    rw [hm, Option.getD_some] at h
    rw [h, Device.receive_twice hm, Option.getD_some]

/-- A wire message is the same bytes in whatever state it is executed (R58). -/
theorem exec_wire_message {i : Instr} (h : i.isRequest = false) : ∃ m, ∀ s, exec i s = .next (s.deliver m) := by
  cases i with
  | oscOn | dimming | displayOn | displayOff | rowWrite | fullWrite => exact ⟨_, fun _ => rfl⟩
  | _ => simp [Instr.isRequest] at h

/-! ## A body that is run to its end -/

/-- The body, run from `s`, ends well (R9). -/
def EndsOk (body : List Micro) (s : State) : Prop := (runBody body s).rsp = s.rsp ++ [⟨.ok, 0⟩]

theorem runBody_last_send_registers (m : State → Message) (s : State) :
    (runBody [.send m] s).registers = s.registers := by
  obtain ⟨-, ht⟩ | ⟨k, -, ht⟩ | ⟨-, ht⟩ := runBody_last_send m s <;> simp [ht, State.registers]

/-- A last Send behind which the operation ends well was taken by the device. -/
theorem runBody_last_send_dev_of_endsOk {m : State → Message} {s : State} (h : EndsOk [.send m] s) :
    (runBody [.send m] s).dev = (s.deliver (m s)).dev := by
  obtain ⟨-, ht⟩ | ⟨k, -, ht⟩ | ⟨-, ht⟩ := runBody_last_send m s
  · simp [ht]
  · simp [EndsOk, ht, exnResponse] at h
  · simp [EndsOk, ht] at h

/-- A body that has come to its end, with every Send answered ok, has ended well. -/
theorem endsOk_of_sent {body : List Micro} {s : State} {sent : List TxRecord}
    (h : WaitsOrResponds BodyResponse s (runBody body s)) (hbusy : (runBody body s).busy = false)
    (hsent : Sent s (runBody body s) sent) (hok : ∀ r ∈ sent, r.answer = .ok) : EndsOk body s := by
  obtain ⟨hwait, -⟩ | ⟨-, r, hrsp, -, rfl | ⟨kind, rfl⟩⟩ := h
  · rw [hbusy] at hwait
    cases hwait
  · exact hrsp
  · obtain ⟨r, hr, herr⟩ := (hsent.response kind).mpr hrsp
    rw [hok r hr] at herr
    cases herr

/-! ## Bodies whose second run changes nothing -/

/-- Behind a run of `body` from `s` the body, run from a state `t` with the registers it left, leaves them; and where
both runs end well, it leaves the device too. -/
structure Repeatable (body : List Micro) : Prop where
  registers : ∀ s t : State, t.registers = (runBody body s).registers → (runBody body t).registers = t.registers
  dev : ∀ s t : State, t.registers = (runBody body s).registers → t.dev = (runBody body s).dev →
    EndsOk body s → EndsOk body t → (runBody body t).dev = t.dev

/-- Writes that act on the registers by `g`, idempotent, and then one Send of a message built from the registers. -/
theorem repeatable_of_send {body : List Micro} {w : State → State}
    (g : Registers → Registers) (msg : Registers → Message)
    (hbody : ∀ s, runBody body s = runBody [.send fun u => msg u.registers] (w s))
    (hw : ∀ s, (w s).registers = g s.registers) (hdev : ∀ s, (w s).dev = s.dev) (hrsp : ∀ s, (w s).rsp = s.rsp)
    (hg : ∀ r, g (g r) = g r) : Repeatable body := by
  have hrun (s : State) : (runBody body s).registers = g s.registers := by
    rw [hbody, runBody_last_send_registers, hw]
  refine ⟨fun s t ht => ?_, fun s t ht htdev hs hok => ?_⟩
  · rw [hrun, ht, hrun, hg]
  · have hsend (u : State) (h : EndsOk body u) :
        (runBody body u).dev = ((w u).deliver (msg (w u).registers)).dev := by
      have hlast : EndsOk [.send fun v => msg v.registers] (w u) := by rw [EndsOk, ← hbody, hrsp, h]
      rw [hbody, runBody_last_send_dev_of_endsOk hlast]
    have hsame : (w t).registers = (w s).registers := by rw [hw, hw, ht, hrun, hg]
    rw [hsend t hok, hsame, ← hdev t]
    exact State.deliver_twice_dev (by rw [hdev, htdev, hsend s hs])

/-- A body that writes the frame buffer by `g` and sends a message built from it. -/
theorem repeatable_buffer (g : Buffer → Buffer) (msg : Buffer → Message) (hg : ∀ b, g (g b) = g b) :
    Repeatable [.write fun s => writeRows (g s.fb) s, .send fun s => msg s.fb] :=
  repeatable_of_send (w := fun s => (writeRows (g s.fb) s).advance)
    (fun r => { r with fb := g r.fb }) (fun r => msg r.fb)
    (fun _ => rfl) (fun _ => rfl) (fun _ => rfl) (fun _ => rfl) (fun r => by simp only [hg])

theorem repeatable_onBody : Repeatable onBody :=
  repeatable_of_send (w := fun s => (writeIsOn true s).advance)
    (fun r => { r with isOn := true }) (fun r => [displayOnByte r.blink])
    (fun _ => rfl) (fun _ => rfl) (fun _ => rfl) (fun _ => rfl) (fun _ => rfl)

theorem repeatable_offBody : Repeatable offBody :=
  repeatable_of_send (w := fun s => (writeIsOn false s).advance)
    (fun r => { r with isOn := false }) (fun _ => [displayOffByte])
    (fun _ => rfl) (fun _ => rfl) (fun _ => rfl) (fun _ => rfl) (fun _ => rfl)

theorem repeatable_setBrightnessBody (level : Byte) : Repeatable (setBrightnessBody level) :=
  repeatable_of_send (w := id) id (fun _ => [brightnessByte (levelOf level)])
    (fun _ => rfl) (fun _ => rfl) (fun _ => rfl) (fun _ => rfl) (fun _ => rfl)

/-- SET_BLINKING sends only while the display is on (R143). -/
theorem repeatable_setBlinkingBody (mode : Byte) (isOn : Bool) : Repeatable (setBlinkingBody mode isOn) := by
  cases isOn with
  | true =>
    exact repeatable_of_send (w := fun s => (writeIsOn true (writeBlink (modeOf mode) s).advance).advance)
      (fun r => { r with blink := modeOf mode, isOn := true }) (fun r => [displayOnByte r.blink])
      (fun _ => rfl) (fun _ => rfl) (fun _ => rfl) (fun _ => rfl) (fun _ => rfl)
  | false =>
    have hrun (s : State) : (runBody (setBlinkingBody mode false) s).registers =
      { s.registers with blink := modeOf mode } := rfl
    exact ⟨fun s t ht => by rw [hrun, ht, hrun], fun _ _ _ _ _ _ => rfl⟩

theorem clrcol_clrcol (f : Buffer) (c : Fin 8) : clrcol (clrcol f c) c = clrcol f c := by
  rw [← setcol_zero f c, clrcol_setcol, setcol_zero]

/-- Every request but INIT, by what it writes. -/
theorem repeatable_bodyOf {i : Instr} (hi : i.isRequest = true) (hinit : isInit i = false) (s : State) :
    Repeatable (bodyOf i s) := by
  cases i with
  | init brightness address => simp [isInit] at hinit
  | on => exact repeatable_onBody
  | off => exact repeatable_offBody
  | setBrightness level => exact repeatable_setBrightnessBody level
  | setBlinking mode => exact repeatable_setBlinkingBody mode s.isOn
  | set bitmap => exact repeatable_buffer (fun _ => payloadRows bitmap) pack16 fun _ => rfl
  | clear => exact repeatable_buffer (fun _ => clearRows) pack16 fun _ => rfl
  | setRow row byte =>
    exact repeatable_buffer (fun b => b.set (index row) byte) (rowmsg · (index row)) fun b => by simp
  | clearRow row =>
    exact repeatable_buffer (fun b => b.set (index row) 0x00) (fun _ => [rowAddr (rowBits (index row)), 0x00])
      fun b => by simp
  | setColumn column byte =>
    exact repeatable_buffer (setcol · (index column) byte) pack16 fun b => setcol_setcol_same b _ byte byte
  | clearColumn column =>
    exact repeatable_buffer (clrcol · (index column)) pack16 fun b => clrcol_clrcol b _
  | setPixel row column =>
    exact repeatable_buffer (fun b => b.set (index row) (setbit b[index row] (index column)))
      (rowmsg · (index row)) fun b => by simp [setbit_setbit]
  | clearPixel row column =>
    exact repeatable_buffer (fun b => b.set (index row) (clrbit b[index row] (index column)))
      (rowmsg · (index row)) fun b => by simp [clrbit_clrbit]
  | _ => simp [Instr.isRequest] at hi

/-! ## INIT -/

/-- Where INIT ends well, its four Sends were answered ok. -/
theorem coming_ok_of_endsOk_initBody {b : Byte} {a : BusAddress} {s : State} (h : EndsOk (initBody b a) s) :
    ∀ k, k < 4 → coming s k = .answered .ok := by
  intro k hk
  induction k using Nat.strong_induction_on with
  | h k ih =>
    obtain ⟨phase, hbody⟩ := runBody_initBody_reaches (brightness := b) (address := a) hk.le
      fun j hj => ih j hj (hj.trans hk)
    have hm : (initMessages b)[k]? = some _ := List.getElem?_eq_getElem hk
    rw [EndsOk, hbody, ← taken_rsp s k] at h
    rcases hr : coming s k with (_ | kind) | _
    · rfl
    · rw [runBody_initFrom_err hm hr] at h
      simp [initState, exnResponse] at h
    · obtain ⟨msg, rest, hfrom, -⟩ := initFrom_send (s := s) (address := a) hm
      rw [hfrom, runBody_send_silent (initState_reply.trans hr)] at h
      simp [initState] at h

/-- The registers that INIT leaves where it ends well (R100). -/
def Registers.afterInit (address : BusAddress) (r : Registers) : Registers :=
  { r with fb := clearRows, isOn := true, blink := 0, addr := address, inited := true }

/-- Behind its last Send only the write of INITED is left of INIT (R100). -/
theorem initFrom_four (b : Byte) (a : BusAddress) : initFrom b a 4 = [.write (writeInited true)] := rfl

/-- What INIT leaves where it ends well, whatever was before (R100). -/
theorem runBody_initBody_of_endsOk {b : Byte} {a : BusAddress} {s : State} (h : EndsOk (initBody b a) s) :
    (runBody (initBody b a) s).registers = s.registers.afterInit a ∧
      (runBody (initBody b a) s).dev = initDevice s.dev b 4 := by
  obtain ⟨phase, hbody⟩ := runBody_initBody_reaches (brightness := b) (address := a) le_rfl
    (coming_ok_of_endsOk_initBody h)
  rw [hbody, initFrom_four, runBody_write, runBody_nil]
  simp [State.registers, Registers.afterInit, initState, taken]

theorem initDevice_twice (d : Device) (b : Byte) : initDevice (initDevice d b 4) b 4 = initDevice d b 4 := by
  simp only [initDevice, Memory.writeFrom_twice]

theorem runBody_initBody_twice {b : Byte} {a : BusAddress} {s t : State}
    (ht : t.registers = (runBody (initBody b a) s).registers) (hdev : t.dev = (runBody (initBody b a) s).dev)
    (hs : EndsOk (initBody b a) s) (hok : EndsOk (initBody b a) t) :
    (runBody (initBody b a) t).registers = t.registers ∧ (runBody (initBody b a) t).dev = t.dev := by
  obtain ⟨hregs, hdevice⟩ := runBody_initBody_of_endsOk hs
  obtain ⟨hregs', hdevice'⟩ := runBody_initBody_of_endsOk hok
  constructor
  · rw [hregs', ht, hregs]
    rfl
  · rw [hdevice', hdev, hdevice, initDevice_twice]

/-! ## The second run -/

section
variable {i : Instr} {s t t' : State} (hexec : exec i s = .next t) (ht : t'.registers = t.registers)
include hexec ht

/-- The checks of a request read INITED, which only INIT writes, and INIT has no gate (R17, R102). -/
theorem checkOf_again : checkOf i t' = checkOf i s := by
  obtain ⟨u, hu, hinited, -⟩ := controlRegisterWriters i s
  obtain rfl : t = u := by rw [hexec] at hu; exact Host.Outcome.next.inj hu
  have hgate (hi : isInit i = false) (bad : Option Which) : gateAndOperands t' bad = gateAndOperands s bad := by
    have hsame : t'.inited = s.inited := (congrArg Registers.inited ht).trans (hinited hi).2
    rw [gateAndOperands, gateAndOperands, hsame]
  cases i with
  | init brightness address => rfl
  | oscOn | dimming | displayOn | displayOff | rowWrite | fullWrite => rfl
  | _ => exact hgate rfl _

/-- The body of SET_BLINKING reads IS_ON, which SET_BLINKING keeps (R13). -/
theorem bodyOf_again : bodyOf i t' = bodyOf i s := by
  cases i with
  | setBlinking mode =>
    obtain ⟨u, hu, -, -, hisOn, -⟩ := controlRegisterWriters (.setBlinking mode) s
    obtain rfl : t = u := by rw [hexec] at hu; exact Host.Outcome.next.inj hu
    exact bodyOf_congr _ ((congrArg Registers.isOn ht).trans (hisOn rfl nofun nofun))
  | _ => rfl

/-- The second run is the first one's check and body. -/
theorem exec_again (hi : i.isRequest = true) :
    exec i t' = .next (runChecked (checkOf i s) (bodyOf i s) t') := by
  rw [exec_request hi, checkOf_again hexec ht, bodyOf_again hexec ht]

end

/-- A body run twice, both times to a good end. -/
theorem runBody_bodyOf_twice {i : Instr} {s t : State} (hi : i.isRequest = true)
    (ht : t.registers = (runBody (bodyOf i s) s).registers) (hdev : t.dev = (runBody (bodyOf i s) s).dev)
    (hs : EndsOk (bodyOf i s) s) (hok : EndsOk (bodyOf i s) t) :
    (runBody (bodyOf i s) t).registers = t.registers ∧ (runBody (bodyOf i s) t).dev = t.dev := by
  cases hinit : isInit i with
  | false =>
    have hrepeat := repeatable_bodyOf hi hinit s
    exact ⟨hrepeat.registers s t ht, hrepeat.dev s t ht hdev hs hok⟩
  | true =>
    cases i with
    | init b a => exact runBody_initBody_twice ht hdev hs hok
    | _ => simp [isInit] at hinit

/-- The registers that R162 names. -/
theorem fields_of_registers_eq {s t : State} (h : s.registers = t.registers) :
    s.fb = t.fb ∧ s.isOn = t.isOn ∧ s.blink = t.blink ∧ s.addr = t.addr ∧ s.inited = t.inited :=
  ⟨congrArg Registers.fb h, congrArg Registers.isOn h, congrArg Registers.blink h, congrArg Registers.addr h,
    congrArg Registers.inited h⟩

/-- R162 for an operation other than INIT: the writes of the first run are done whether or not its Send succeeds. -/
theorem exec_twice_registers {i : Instr} {s t t' : State} (hinit : isInit i = false) (hexec : exec i s = .next t)
    (ht : t'.registers = t.registers) : ∃ u, exec i t' = .next u ∧ u.registers = t.registers := by
  cases hi : i.isRequest with
  | false =>
    obtain ⟨m, hm⟩ := exec_wire hi t'
    exact ⟨_, hm, ht⟩
  | true =>
    refine ⟨_, exec_again hexec ht hi, ?_⟩
    cases hc : checkOf i s with
    | some e => exact ht
    | none =>
      obtain rfl := Host.Outcome.next.inj ((exec_checked hi hc).symm.trans hexec)
      exact ((repeatable_bodyOf hi hinit s).registers s t' ht).trans ht

/-- R162 for any operation that both times comes to an end with every Send answered ok. -/
theorem exec_twice_ok {i : Instr} {s t t' : State} (hexec : exec i s = .next t) (ht : t'.registers = t.registers)
    (hdev : t'.dev = t.dev) (htx : t'.tx = t.tx) :
    ∃ u, exec i t' = .next u ∧ ((i.isRequest = true → t.busy = false ∧ u.busy = false) →
      (∀ r ∈ u.tx.drop s.tx.length, r.answer = .ok) → u.registers = t.registers ∧ u.dev = t.dev) := by
  cases hi : i.isRequest with
  | false =>
    obtain ⟨m, hm⟩ := exec_wire_message hi
    obtain rfl := Host.Outcome.next.inj ((hm s).symm.trans hexec)
    exact ⟨_, hm t', fun _ _ => ⟨ht, (State.deliver_twice_dev hdev).trans hdev⟩⟩
  | true =>
    refine ⟨_, exec_again hexec ht hi, fun hbusy hok => ?_⟩
    obtain ⟨hbusy, hbusy'⟩ := hbusy rfl
    cases hc : checkOf i s with
    | some e => exact ⟨ht, hdev⟩
    | none =>
      rw [hc, runChecked_none] at hbusy' hok
      obtain rfl := Host.Outcome.next.inj ((exec_checked hi hc).symm.trans hexec)
      have hbody := bodyOf_again hexec ht
      obtain ⟨sent, -, hsent⟩ := runBody_bodyOf_sent i s
      obtain ⟨sent', -, hsent'⟩ := runBody_bodyOf_sent i t'
      have hends := runBody_bodyOf_waitsOrResponds i t'
      rw [hbody] at hsent' hends
      rw [hsent'.tx, htx, hsent.tx, List.append_assoc, List.drop_left, List.forall_mem_append] at hok
      obtain ⟨hregs, hdevice⟩ := runBody_bodyOf_twice hi ht hdev
        (endsOk_of_sent (runBody_bodyOf_waitsOrResponds i s) hbusy hsent hok.1)
        (endsOk_of_sent hends hbusy' hsent' hok.2)
      exact ⟨hregs.trans ht, hdevice.trans hdev⟩

/-- Settles O48: the second run finds the check and the body of the first, and the body changes nothing more. -/
theorem repeatingIsSafe : Obligations.RepeatingIsSafe := by
  intro i s replies
  obtain ⟨t, hexec, -⟩ := controlRegisterWriters i s
  refine ⟨fun hinit d => ?_, ?_⟩
  · obtain ⟨u, hu, hregs⟩ := exec_twice_registers (t' := { t with replies := replies, dev := d }) hinit hexec rfl
    exact ⟨t, u, hexec, hu, fields_of_registers_eq hregs⟩
  · obtain ⟨u, hu, hsame⟩ := exec_twice_ok (t' := { t with replies := replies }) hexec rfl rfl rfl
    refine ⟨t, u, hexec, hu, fun hbusy hok => ?_⟩
    obtain ⟨hregs, hdev⟩ := hsame hbusy hok
    obtain ⟨hfb, hisOn, hblink, haddr, hinited⟩ := fields_of_registers_eq hregs
    exact ⟨hfb, hisOn, hblink, haddr, hinited, hdev⟩

end Sys2Proof.Machine
end

section
/-! Q_READY, a block that waits, RESET, and the write that comes before the Send (70_reset_and_hazards R180, R181, R185,
R186, R192). -/

namespace Sys2Proof.Machine

/-! ## The host's turn -/

theorem State.lines_of_inputs {s : State} {l : HostLines} {rest : List HostLines} (h : s.inputs = l :: rest) :
    s.lines = l := by
  simp [State.lines, h]

theorem State.nextLines_of_inputs {s : State} {l : HostLines} {rest : List HostLines} (h : s.inputs = l :: rest) :
    s.nextLines = { s with inputs := rest } := by
  simp [State.nextLines, h]

/-- The turn is the host's but for a message on the port of an idle block. -/
theorem step_eq_hostTurn {s : State} (h : s.busy = true ∨ s.tPort = none) :
    step s = s.nextLines.hostTurn s.lines := by
  cases hb : s.busy with
  | false => exact step_idle_quietPort hb (h.resolve_left (by simp [hb]))
  | true => simp only [step, State.turn, hb]

theorem State.hostTurn_reset {l : HostLines} (hl : l.reset = true) (s : State) :
    s.hostTurn l = .next s.resetBlock := by
  simp [State.hostTurn, hl]

/-- Without RESET only a request offered to an idle block has an effect (R156, R185). -/
theorem State.hostTurn_nothing {s : State} {l : HostLines} (hl : l.reset = false)
    (h : s.busy = true ∨ l.valid = false) : s.hostTurn l = .next s := by
  obtain hb | hv := h
  · simp [State.hostTurn, hl, hb]
  · simp [State.hostTurn, hl, hv]

theorem step_busy {s : State} (hb : s.busy = true) (hl : s.lines.reset = false) : step s = .next s.nextLines := by
  rw [step_eq_hostTurn (.inl hb), State.hostTurn_nothing (s := s.nextLines) hl (.inl hb)]

/-- Settles O16: the turn is the host's, and nothing of it has an effect. -/
theorem busyBlockAcceptsNothing : Obligations.BusyBlockAcceptsNothing := by
  intro s l rest
  refine ⟨by simp [State.qReady], fun hb hin hl => ?_, fun _ ht hin hl hv => ?_, fun h hin => ?_, fun hb hl hv => ?_⟩
  · rw [← State.nextLines_of_inputs hin]
    rw [← State.lines_of_inputs hin] at hl
    exact step_busy hb hl
  · rw [step_eq_hostTurn (.inr ht), State.lines_of_inputs hin, State.nextLines_of_inputs hin,
      State.hostTurn_nothing hl (.inr hv)]
  · have hquiet : s.lines = HostLines.quiet := by simp [State.lines, hin]
    have hnext : s.nextLines = s := by rw [State.nextLines, hin, List.tail_nil, ← hin]
    rw [step_eq_hostTurn h, hquiet, hnext, State.hostTurn_nothing rfl (.inr rfl)]
  · simp [State.tick, hl, hb, hv]

/-! ## Waiting -/

theorem State.lines_reset_eq_false {s : State} (h : ∀ l ∈ s.inputs, l.reset = false) : s.lines.reset = false := by
  cases hin : s.inputs with
  | nil => simp [State.lines, hin, HostLines.quiet]
  | cons l rest => rw [State.lines_of_inputs hin]; exact h l (by simp [hin])

/-- Settles O17, by induction on the steps: each of them only passes the host's lines. -/
theorem waitingBlockStaysBusy : Obligations.WaitingBlockStaysBusy := by
  intro s n hb hl
  refine ⟨_, ?_, rfl⟩
  induction n generalizing s with
  | zero => rfl
  | succ n ih =>
    have hstep := step_busy hb (State.lines_reset_eq_false hl)
    have hrun : core.run (n + 1) s = core.run n s.nextLines := by simp [Host.Core.run, core, hstep]
    rw [hrun, ih s.nextLines hb fun l h => hl l (List.mem_of_mem_tail h), State.nextLines_inputs, List.drop_tail]
    rfl

/-! ## RESET -/

theorem State.resetBlock_idle {s : State} (ht : s.tPort = none) :
    s.resetBlock.dev = s.dev ∧ s.resetBlock.replies = s.replies := by
  simp [State.resetBlock, ht]

/-- A message in flight at RESET is a failed one (R43, R181). -/
theorem State.resetBlock_inFlight {s : State} {m : Message} (ht : s.tPort = some m) :
    SameOutside m s.dev s.resetBlock.dev := by
  simp only [State.resetBlock, ht]
  exact Device.garble_sameOutside _ _ _

theorem State.resetBlock_traces (s : State) :
    s.resetBlock.inputs = s.inputs ∧ s.resetBlock.rsp = [] ∧ s.resetBlock.tx = [] := by
  obtain ⟨dev, replies, draws, h⟩ := s.resetBlock_eq
  rw [h]
  exact ⟨rfl, rfl, rfl⟩

/-- Settles O19: the step is the RESET, and behind it the block is idle, so that quiet ticks do nothing. -/
theorem resetStep : Obligations.ResetStep := by
  intro s l hl
  refine ⟨by simp [State.qReady, hl], fun rest hturn hin => ?_, fun n => ?_⟩
  · obtain ⟨hinputs, hrsp, -⟩ := State.resetBlock_traces { s with inputs := rest }
    refine ⟨_, ?_, rfl, hinputs, hrsp, State.resetBlock_idle (s := { s with inputs := rest }),
      fun _ => State.resetBlock_inFlight (s := { s with inputs := rest })⟩
    rw [step_eq_hostTurn hturn, State.lines_of_inputs hin, State.nextLines_of_inputs hin, State.hostTurn_reset hl]
  · obtain ⟨-, hrsp, htx⟩ := s.resetBlock_traces
    have htick : s.tick l = s.resetBlock := by simp [State.tick, hl]
    refine ⟨_, ?_, rfl, hrsp, htx, State.resetBlock_idle, fun _ => State.resetBlock_inFlight⟩
    rw [htick, State.ticks_idle s.resetBlock_busy]

/-! ## Between two micro-steps -/

/-- Settles O57: the first micro-step of SET_ROW is the write of the row. -/
theorem writeComesBeforeSend : Obligations.WriteComesBeforeSend := by
  intro s p row byte r hb hs hr
  have hcheck : gateAndOperands (s.accept (0x08#8 ++ row ++ byte) p) (checkIndex row) = none := gate_index_none hs hr
  have haccept : s.tick (HostLines.offer (0x08#8 ++ row ++ byte) p) = s.accept (0x08#8 ++ row ++ byte) p := by
    simp [State.tick, HostLines.offer, hb, State.begin, checkOf, hcheck]
  obtain rfl := index_of_toNat hr
  refine ⟨_, rfl, ?_⟩
  rw [haccept, (Running.accept (decodeRequest_setRow row byte p) s).tick]
  exact ⟨congrArg (DebugPort.mk _ _ _ _ · _) hs, rfl, rfl, rfl⟩

end Sys2Proof.Machine
end

section
/-! A Send that is never answered (70_reset_and_hazards R192, log 5): the first of any operation, and each of INIT's. -/

namespace Sys2Proof.Machine

/-! ## The writes in front of the first Send -/

/-- The state behind these writes, each a micro-step. -/
def afterWrites (fs : List (State → State)) (s : State) : State := fs.foldl (fun u f => (f u).advance) s

theorem runBody_writes (fs : List (State → State)) (todo : List Micro) (s : State) :
    runBody (fs.map .write ++ todo) s = runBody todo (afterWrites fs s) := by
  induction fs generalizing s with
  | nil => rfl
  | cons f fs ih => exact ih (f s).advance

theorem bodyOf_write_keeps_reply {i : Instr} {s₀ : State} {f : State → State} (hf : .write f ∈ bodyOf i s₀) :
    ∀ s, (f s).reply = s.reply :=
  bodyOf_writes i s₀ (P := fun f => ∀ s, (f s).reply = s.reply) (fun _ _ _ => rfl) (fun _ _ => rfl)
    (fun _ _ => rfl) (fun _ _ => rfl) (fun _ _ => rfl) (fun _ _ => rfl) f hf

theorem bodyOf_write_ignores_replies {i : Instr} {s₀ : State} {f : State → State} (hf : .write f ∈ bodyOf i s₀)
    (s : State) (replies : List Reply) : f { s with replies := replies } = { f s with replies := replies } :=
  bodyOf_writes_reading_fb i s₀
    (P := fun f => ∀ (s : State) (replies : List Reply),
      f { s with replies := replies } = { f s with replies := replies })
    (fun _ _ _ _ => rfl) (fun _ _ _ => rfl) (fun _ _ _ => rfl) (fun _ _ _ => rfl) (fun _ _ _ => rfl)
    (fun _ _ _ => rfl) hf s replies

section
variable {i : Instr} {s₀ : State} {fs : List (State → State)} (hfs : ∀ f ∈ fs, .write f ∈ bodyOf i s₀)
include hfs

/-- Traces, device and transport are as before the writes. -/
theorem afterWrites_frame (s : State) :
    (afterWrites fs s).tx = s.tx ∧ (afterWrites fs s).rsp = s.rsp ∧ (afterWrites fs s).dev = s.dev ∧
      (afterWrites fs s).reply = s.reply := by
  induction fs generalizing s with
  | nil => exact ⟨rfl, rfl, rfl, rfl⟩
  | cons f fs ih =>
    have hf := hfs f List.mem_cons_self
    obtain ⟨htx, hrsp⟩ := bodyOf_write_keeps_traces hf s
    obtain ⟨htx', hrsp', hdev', hreply'⟩ := ih (fun g hg => hfs g (List.mem_cons_of_mem _ hg)) (f s).advance
    exact ⟨htx'.trans htx, hrsp'.trans hrsp, hdev'.trans (bodyOf_write_keeps_dev hf s),
      hreply'.trans (bodyOf_write_keeps_reply hf s)⟩

theorem afterWrites_ignores_replies (s : State) (replies : List Reply) :
    afterWrites fs { s with replies := replies } = { afterWrites fs s with replies := replies } := by
  induction fs generalizing s with
  | nil => rfl
  | cons f fs ih =>
    have hf := bodyOf_write_ignores_replies (hfs f List.mem_cons_self) s replies
    calc afterWrites (f :: fs) { s with replies := replies }
        = afterWrites fs { (f s).advance with replies := replies } := by rw [afterWrites, List.foldl_cons, hf]; rfl
      _ = _ := ih (fun g hg => hfs g (List.mem_cons_of_mem _ hg)) (f s).advance

end

/-- A request that sends is writes and then its first Send, which only for INIT is not the end; SET_BLINKING sends
while the display is on (R143). -/
theorem bodyOf_first_send {i : Instr} {s : State} (hi : i.isRequest = true)
    (hon : ∀ mode, i = .setBlinking mode → s.isOn = true) :
    ∃ (fs : List (State → State)) (m : State → Message) (rest : List Micro),
      bodyOf i s = fs.map .write ++ .send m :: rest ∧ (isInit i = false → rest = []) := by
  cases i with
  | init brightness address => exact ⟨[_], _, _, rfl, nofun⟩
  | setBrightness level => exact ⟨[], _, _, rfl, fun _ => rfl⟩
  | setBlinking mode =>
    have hbody : bodyOf (.setBlinking mode) s = .write (writeBlink (modeOf mode)) :: onBody := by
      simp [bodyOf, setBlinkingBody, hon mode rfl]
    exact ⟨[_, _], _, _, hbody, fun _ => rfl⟩
  | oscOn | dimming | displayOn | displayOff | rowWrite | fullWrite => simp [Instr.isRequest] at hi
  | _ => exact ⟨[_], _, _, rfl, fun _ => rfl⟩

theorem checkOf_ignores_replies (i : Instr) (s : State) (replies : List Reply) :
    checkOf i { s with replies := replies } = checkOf i s := by
  cases i <;> rfl

/-- A request past its checks comes by its writes to its first Send, in front of which the block is `u`, whatever the
transport is going to answer. -/
theorem exec_first_send {i : Instr} {s : State} (hi : i.isRequest = true) (hc : checkOf i s = none)
    (hon : ∀ mode, i = .setBlinking mode → s.isOn = true) :
    ∃ m rest u, .send m ∈ bodyOf i s ∧ (isInit i = false → rest = []) ∧
      u.tx = s.tx ∧ u.rsp = s.rsp ∧ u.dev = s.dev ∧ u.reply = s.reply ∧
      exec i s = .next (runBody (.send m :: rest) u) ∧
      ∀ replies, exec i { s with replies := replies } =
        .next (runBody (.send m :: rest) { u with replies := replies }) := by
  obtain ⟨fs, m, rest, hbody, hrest⟩ := bodyOf_first_send hi hon
  have hfs : ∀ f ∈ fs, .write f ∈ bodyOf i s := fun f hf => by simp [hbody, hf]
  have hrun (v : State) : runBody (bodyOf i s) v = runBody (.send m :: rest) (afterWrites fs v) := by
    rw [hbody, runBody_writes]
  obtain ⟨htx, hrsp, hdev, hreply⟩ := afterWrites_frame hfs s
  refine ⟨m, rest, afterWrites fs s, by simp [hbody], hrest, htx, hrsp, hdev, hreply, ?_, fun replies => ?_⟩
  · rw [exec_checked hi hc, hrun]
  · rw [exec_checked hi ((checkOf_ignores_replies i s replies).trans hc), ← afterWrites_ignores_replies hfs s replies,
      bodyOf_congr i (s := { s with replies := replies }) (t := s) rfl, hrun]

/-! ## INIT -/

theorem runBody_initFrom_silent {s : State} {brightness : Byte} {address : BusAddress} {n : Nat} {isOn : Bool}
    {phase : BitVec 3} {m : Message} (hm : (initMessages brightness)[n]? = some m) (hsilent : coming s n = .silent) :
    runBody (initFrom brightness address n) (initState s brightness address n isOn phase) =
      (initState s brightness address n isOn phase).hang m := by
  obtain ⟨msg, rest, hfrom, hmsg, -⟩ := initFrom_send (s := s) (address := address) hm
  rw [hfrom, runBody_send_silent (initState_reply.trans hsilent), hmsg]

/-- What INIT has told the device in front of its Send number `n`, and nothing more (R100). -/
theorem initDevice_told (d : Device) (brightness : Byte) {n : Nat} (hn : n < 4) :
    (n = 0 → initDevice d brightness n = d) ∧ (0 < n → (initDevice d brightness n).osc = true) ∧
      (n = 1 → (initDevice d brightness n).dim = d.dim) ∧
      (1 < n → (initDevice d brightness n).dim = levelOf brightness) ∧
      (initDevice d brightness n).dispOn = d.dispOn ∧ (initDevice d brightness n).dispBlink = d.dispBlink ∧
      (n < 3 → (initDevice d brightness n).ram = d.ram) ∧
      (n = 3 → ∀ a, a < 15 → (initDevice d brightness n).ram.read a = some 0x00) ∧
      ∀ a, 15 ≤ a → (initDevice d brightness n).ram.read a = d.ram.read a := by
  match n with
  | 0 => simp [initDevice]
  | 1 => simp [initDevice]
  | 2 => simp [initDevice]
  | 3 => simp +contextual [initDevice, Memory.read_dark, Memory.read_pack16_above]
  | n + 4 => omega

/-! ## The obligation -/

/-- Settles O49: the writes lead to the first Send, and the Sends of INIT that are answered ok to the next one; there
the block hangs. -/
theorem silentTransportHangs : Obligations.SilentTransportHangs := by
  refine ⟨fun i s hi hlegal hgate hon hsilent => ?_, fun s brightness address n hb hok hsilent => ?_⟩
  · have hcheck := checkOf_response (s := s) hi hgate
    rw [hlegal] at hcheck
    obtain ⟨m, rest, u, hm, hrest, htx, hrsp, hdev, hreply, hexec, hagain⟩ :=
      exec_first_send hi (Option.map_eq_none_iff.mp hcheck) hon
    rw [runBody_send_silent (hreply.trans hsilent)] at hexec
    refine ⟨_, _, hexec, rfl, rfl, bodyOf_send_sixShapes hm u, hrsp, htx, hdev, rfl, rfl, fun hinit =>
      ⟨_, hagain _, ?_⟩⟩
    have hsame : m { u with replies := .answered .ok :: s.replies } = m u := bodyOf_send_reads hm rfl rfl
    rw [hrest hinit, runBody_send_ok rfl, runBody_nil, hsame, ← htx]
    exact ⟨rfl, rfl, rfl, rfl, rfl, rfl⟩
  · have hm : (initMessages brightness)[n.val]? = some _ := List.getElem?_eq_getElem n.isLt
    obtain ⟨phase, hbody⟩ := runBody_initBody_reaches (brightness := brightness) (address := address) (by omega) hok
    have hlast : decide (3 ≤ n.val) = decide (n.val = 3) := by rw [decide_eq_decide]; omega
    refine ⟨phase, _, ?_, initDevice_told s.dev brightness n.isLt⟩
    rw [exec_init hb, hbody, runBody_initFrom_silent hm hsilent, hm, hlast]
    rfl

end Sys2Proof.Machine
end
